-- ==== Sys2Proof/Word.lean ====
section
/-! DEFINITION. The byte of the trunk and branch lines, and the fixed-size table that holds the
numbered records of the part (sixteen channels, sixteen zones, sixty-four groups, twenty-four slots). -/

namespace Sys2Proof

/-- One character of the trunk or of the branch line (R148: eight data bits). -/
abbrev Byte := BitVec 8

/-- A table of exactly `n` records, indexed from 0: plain data, its length carried with it. -/
structure Table (α : Type) (n : Nat) where
  data : List α
  size : data.length = n
deriving DecidableEq, Repr

namespace Table

variable {α β : Type} {n : Nat}

/-- The record at an index. -/
def get (t : Table α n) (i : Fin n) : α := t.data[i.1]'(by rw [t.size]; exact i.2)

/-- The table with the record at one index replaced. -/
def set (t : Table α n) (i : Fin n) (a : α) : Table α n :=
  ⟨t.data.set i.1 a, by rw [List.length_set]; exact t.size⟩

/-- The table with the record at one index changed by `f`. -/
def modify (t : Table α n) (i : Fin n) (f : α → α) : Table α n := t.set i (f (t.get i))

/-- The table of the values of `f` at the indices. -/
def build (f : Fin n → β) : Table β n := ⟨List.ofFn f, List.length_ofFn⟩

/-- The table whose record at each index is `f` of the index and of the record there. -/
def mapIdx (t : Table α n) (f : Fin n → α → β) : Table β n := build fun i => f i (t.get i)

/-- The table that holds `a` at every index. -/
def fill (a : α) : Table α n := ⟨List.replicate n a, List.length_replicate⟩

end Table
end Sys2Proof
end

