-- ==== Sys2Proof/Config.lean ====
section
/-! DEFINITION. What is fixed for every AV16 (the beats, windows and capacities the manual states) and
the free values: constants without a body, standing for what the manual leaves open. -/

namespace Sys2Proof.Config

/-- R105: a branch slot, and R123: the start period, last 12 ms. -/
def slotMs : Nat := 12

/-- R105: the answer window runs from the start of the slot to 8 ms after it. -/
def windowMs : Nat := 8

/-- R127: one supply sample every 100 ms. -/
def sampleMs : Nat := 100

/-- R158: capacity of an URGENT forward queue. -/
def urgentCapacity : Nat := 4

/-- R158: capacity of a NORMAL forward queue. -/
def normalCapacity : Nat := 8

/-- R119: capacity of the Stranger List. -/
def strangerCapacity : Nat := 8

/-- R122: capacity of the farewell list. -/
def farewellCapacity : Nat := 16

/-- R140 test 5: the largest generation. -/
def generationMax : Nat := 4294967295

/-- FREE VALUE (assumption 4). The body of the reply BAD_VALUE to a COLLECT whose payload is not
empty: section 9.6 says which replies carry a body whatever their status and which are empty, and
names this one in neither list. Applied to the model's counter of free values. -/
opaque refusedCollectBody : Nat → List Byte

/-- FREE VALUE (assumption 5). Whether, of two line errors of one broadcast frame, the one that
forwarding detects (HOP_EXPIRED, QUEUE_FULL) is logged before the one that acting detects
(FIELD_RANGE, MALFORMED): R152 makes both of one event and R166 orders only errors whose rules name
an order. Applied to the model's counter of free values. -/
opaque forwardErrorFirst : Nat → Bool

/-- FREE VALUE (assumption 6). Whether an evaluated answer that finds NO_PROGRESS without a progress
reference (a commit added the detector during the move, R99 step 2) makes its own position and time
the reference, or leaves it absent: R85 compares with a reference and does not say. A function of the
answer's position and time. -/
opaque adoptsReference : (position time : Nat) → Bool

end Sys2Proof.Config
end

