-- ==== Sys2Proof/Syntax.lean ====
section
/-! DEFINITION. The commands of the AV16: one constructor for each row of spec/opcode_table.json, with
the operands the row's rules give it. -/

namespace Sys2Proof

/-- The two trunk ports (R148): UP faces the panel, DOWN faces away from it. -/
inductive TrunkPort where
  | up | down
deriving DecidableEq, Repr

/-- The level of the alarm contact (R32). -/
inductive Level where
  | active | inactive
deriving DecidableEq, Repr

/-- The line rate the RATE strap selects (R148). -/
inductive LineRate where
  | r115200 | r460800
deriving DecidableEq, Repr

/-- The pair of positions a ZONE_ALARM may carry (R26), in per-mille. -/
structure Positions where
  exhaust : Nat
  inlet : Nat
deriving DecidableEq, Repr

/-- Where a trunk frame arrived and the header fields that every kind has (section 9.2). `kind` and
`len` follow from the command and its operands. -/
structure Rx where
  port : TrunkPort
  dst : Nat
  src : Nat
  hop : Nat
  seq : Nat
deriving DecidableEq, Repr

/-- The commands and events of the part, one per row of the table.

A trunk frame kind has its payload's fields as operands, each the number its bytes spell (section
9.6); `frameReception` has the characters of the reception, which no check has judged yet, and the
listening period in which the first of them arrived (R159: each node reset or power-on begins one); `branchReception` has the characters of a branch
reception. -/
inductive Instr where
  /-- POWER_ON (R150): the straps as sampled, and the level of the CONTACT input (R32). -/
  | powerOn (address : Nat) (rate : LineRate) (contact : Level)
  /-- LINK_DOWN (R149): the port's receive line has been at break level for 20 ms. -/
  | linkDown (port : TrunkPort)
  /-- LINK_UP (R149): the port's receive line has been idle for 20 ms. -/
  | linkUp (port : TrunkPort)
  /-- FRAME_RECEPTION (R151). -/
  | frameReception (port : TrunkPort) (period : Nat) (chars : List Byte)
  /-- UNKNOWN_KIND (R153): a frame whose kind code is in no row of section 9.6. -/
  | unknownKind (rx : Rx) (kind : Byte) (payload : List Byte)
  /-- ZONE_ALARM (R27). -/
  | zoneAlarm (rx : Rx) (zone : Nat) (episode : Option Positions)
  /-- ZONE_RESET (R28). -/
  | zoneReset (rx : Rx) (zone : Nat)
  /-- WEATHER (R48). -/
  | weather (rx : Rx) (speed direction rain : Nat)
  /-- GROUP_SET (R64); `mode` is the mode byte, 255 for absent. -/
  | groupSet (rx : Rx) (group position mode : Nat)
  /-- GROUP_RELEASE (R66). -/
  | groupRelease (rx : Rx) (group : Nat)
  /-- SET_WRITE (R138). -/
  | setWrite (rx : Rx) (table index : Nat) (record : List Byte)
  /-- SET_COMMIT (R140). -/
  | setCommit (rx : Rx) (tally generation : Nat)
  /-- SET_DISCARD (R143). -/
  | setDiscard (rx : Rx)
  /-- READ (R144). -/
  | read (rx : Rx) (table index copy : Nat)
  /-- QUERY (R165). -/
  | query (rx : Rx) (subject index : Nat)
  /-- COLLECT (R163). -/
  | collect (rx : Rx)
  /-- LAMP_SET (R98). -/
  | lampSet (rx : Rx) (channel value : Nat)
  /-- CHANNEL_CLEAR (R93); `channel` is the channel byte, 255 for ALL. -/
  | channelClear (rx : Rx) (channel : Nat)
  /-- ERROR_CLEAR (R168). -/
  | errorClear (rx : Rx)
  /-- SUPPLY_CLEAR (R132). -/
  | supplyClear (rx : Rx)
  /-- NODE_RESET (R159). -/
  | nodeReset (rx : Rx)
  /-- NODE_RESET_TAKES_EFFECT (R159). -/
  | nodeResetTakesEffect
  /-- TRANSMISSION_END (R158). -/
  | transmissionEnd (port : TrunkPort)
  /-- TRANSMISSION_START (R158): the closing idle gap of the port's last transmission has passed. -/
  | transmissionStart (port : TrunkPort)
  /-- CONTACT_INPUT_CHANGE (R32): the level the CONTACT input has taken. -/
  | contactInputChange (level : Level)
  /-- PENDING_CHANGE_ACCEPTED (R32). -/
  | pendingChangeAccepted
  /-- PANEL_TIMEOUT (R39). -/
  | panelTimeout
  /-- RAIN_HOLD_EXPIRY (R52). -/
  | rainHoldExpiry
  /-- STORM_HOLD_EXPIRY (R52). -/
  | stormHoldExpiry
  /-- STATION_TIMEOUT (R53). -/
  | stationTimeout
  /-- DWELL_EXPIRY (R82). -/
  | dwellExpiry (channel : Fin 16)
  /-- RETRY_EXPIRY (R89). -/
  | retryExpiry (channel : Fin 16)
  /-- SUPPLY_SAMPLE (R127): the reading at SUPPLY_SENSE, in tenths of a volt. -/
  | supplySample (reading : Nat)
  /-- SLOT_START (R105). -/
  | slotStart
  /-- BRANCH_RECEPTION (R110). -/
  | branchReception (chars : List Byte)
  /-- ANSWER_WINDOW_CLOSE (R110). -/
  | answerWindowClose
deriving DecidableEq, Repr

end Sys2Proof
end

