-- ==== Sys2Proof/WellFormed.lean ====
section
/-! DEFINITION. Which commands are well formed: every operand within what its bits on the trunk, its
strap or its line can spell. A field of the manual's meaning that is out of range (a zone of 20) is
well formed: what the part does with it is the command's meaning. -/

namespace Sys2Proof

/-- The header fields lie in the ranges of section 9.2. -/
def Rx.wellFormed (rx : Rx) : Bool :=
  decide (rx.dst ≤ 62) && decide (1 ≤ rx.src) && decide (rx.src ≤ 62) && decide (rx.hop ≤ 31)
    && decide (rx.seq ≤ 255)

/-- The number fits one byte. -/
def isByte (n : Nat) : Bool := decide (n < 256)

/-- The number fits two bytes. -/
def isWord (n : Nat) : Bool := decide (n < 65536)

/-- The kind codes that section 9.6 gives a kind. -/
def knownKindCodes : List Nat :=
  [0x01, 0x02, 0x03, 0x04, 0x05, 0x10, 0x11, 0x12, 0x13, 0x14, 0x15, 0x16, 0x17, 0x18, 0x19, 0x1A,
    0x20]

/-- Every operand of the command is one its encoding can spell. -/
def Instr.wellFormed : Instr → Bool
  | .powerOn address _ _ => decide (address ≤ 63)
  | .linkDown _ => true
  | .linkUp _ => true
  | .frameReception _ _ chars => decide (1 ≤ chars.length)
  | .unknownKind rx kind payload =>
      rx.wellFormed && !knownKindCodes.contains kind.toNat && decide (payload.length ≤ 48)
  | .zoneAlarm rx zone episode =>
      rx.wellFormed && isByte zone
        && (match episode with
            | none => true
            | some p => isWord p.exhaust && isWord p.inlet)
  | .zoneReset rx zone => rx.wellFormed && isByte zone
  | .weather rx speed direction rain =>
      rx.wellFormed && isWord speed && isByte direction && isByte rain
  | .groupSet rx group position mode =>
      rx.wellFormed && isByte group && isWord position && isByte mode
  | .groupRelease rx group => rx.wellFormed && isByte group
  | .setWrite rx table index record =>
      rx.wellFormed && isByte table && isByte index && decide (record.length ≤ 46)
  | .setCommit rx tally generation =>
      rx.wellFormed && isWord tally && decide (generation < 4294967296)
  | .setDiscard rx => rx.wellFormed
  | .read rx table index copy => rx.wellFormed && isByte table && isByte index && isByte copy
  | .query rx subject index => rx.wellFormed && isByte subject && isByte index
  | .collect rx => rx.wellFormed
  | .lampSet rx channel value => rx.wellFormed && isByte channel && isByte value
  | .channelClear rx channel => rx.wellFormed && isByte channel
  | .errorClear rx => rx.wellFormed
  | .supplyClear rx => rx.wellFormed
  | .nodeReset rx => rx.wellFormed
  | .nodeResetTakesEffect => true
  | .transmissionEnd _ => true
  | .transmissionStart _ => true
  | .contactInputChange _ => true
  | .pendingChangeAccepted => true
  | .panelTimeout => true
  | .rainHoldExpiry => true
  | .stormHoldExpiry => true
  | .stationTimeout => true
  | .dwellExpiry _ => true
  | .retryExpiry _ => true
  | .supplySample _ => true
  | .slotStart => true
  | .branchReception chars => decide (1 ≤ chars.length)
  | .answerWindowClose => true

end Sys2Proof
end

