-- ==== Sys2Proof/Machine/Types.lean ====
section
/-! DEFINITION. The records the part holds: the tables of a configuration set, the runtime record of
each block, frames, notices and line errors. Plain data; what happens to it stands in the other files
of this folder. Positions, times, voltages and currents are natural numbers in the manual's units;
wind trims are integers; membership marks and flag bytes are bit vectors, as their encodings are. -/

namespace Sys2Proof.Machine

/-- A channel number, 0 to 15. -/
abbrev ChannelNo := Fin 16

/-- A zone number, 0 to 15. -/
abbrev ZoneNo := Fin 16

/-- A wind sector, 0 to 15 clockwise from north. -/
abbrev Sector := Fin 16

/-- A comfort group number, 0 to 63. -/
abbrev GroupNo := Fin 64

/-- A drive's factory serial (R103): never zero where it stands for a drive. -/
abbrev Serial := BitVec 48

/-! ## Demand composition (chapter 1) -/

/-- The six layers, in the order of section 1.1. -/
inductive Layer where
  | s | f | w | m | c | b
deriving DecidableEq, Repr

/-- How a cell acts in the fold (R11). -/
inductive Mode where
  | override | cap | floor
deriving DecidableEq, Repr

/-- Where the effective mode of a layer's cell comes from (R5, R8). -/
inductive ModeSource where
  | layer | cell | channel
deriving DecidableEq, Repr

/-- What filled a cell (R1). -/
inductive Origin where
  | zone (z : ZoneNo)
  | supervision
  | rain | storm | stationLost
  | key
  | group (g : GroupNo)
  | rest
deriving DecidableEq, Repr

/-- A present cell (R1). -/
structure Cell where
  value : Nat
  origin : Origin
  carried : Option Mode
deriving DecidableEq, Repr

/-- A channel's demand stack (R1): one cell per layer, absent or present. -/
structure Stack where
  s : Option Cell
  f : Option Cell
  w : Option Cell
  m : Option Cell
  c : Option Cell
  b : Option Cell
deriving DecidableEq, Repr

/-- A layer record (R5). -/
structure LayerRecord where
  priority : Nat
  mode : Mode
  source : ModeSource
  trim : Bool
  derate : Bool
deriving DecidableEq, Repr

/-- The layer table (R5): one record per layer. -/
structure LayerTable where
  s : LayerRecord
  f : LayerRecord
  w : LayerRecord
  m : LayerRecord
  c : LayerRecord
  b : LayerRecord
deriving DecidableEq, Repr

/-- A channel's exposure to the wind (R56). -/
inductive WindClass where
  | windward | cross | leeward | neutral
deriving DecidableEq, Repr

/-- A composition result (R17). -/
structure Result where
  target : Nat
  layer : Layer
  wind : WindClass
  trimmed : Bool
  derated : Bool
  clamped : Bool
deriving DecidableEq, Repr

/-! ## The tables of a configuration set (R136) -/

/-- A channel's role in its zones (R29). -/
inductive Role where
  | exhaust | inlet
deriving DecidableEq, Repr

/-- The sector an opening faces, or FLAT (R46). -/
inductive Facing where
  | sector (n : Sector)
  | flat
deriving DecidableEq, Repr

/-- The four motion checks (section 5.5). -/
inductive Detector where
  | overcurrent | noProgress | noLoad | driveFlag
deriving DecidableEq, Repr

/-- A mark for each detector: the enabled detectors of a channel record (R76), or the armed
detectors of an engine (R87). -/
structure DetectorMarks where
  overcurrent : Bool
  noProgress : Bool
  noLoad : Bool
  driveFlag : Bool
deriving DecidableEq, Repr

/-- What a fault does (R87, R88). -/
inductive FaultAction where
  | latch | retry | reportOnly
deriving DecidableEq, Repr

/-- A channel record (R136): the fields of R103, R9, R29, R46 and R76. -/
structure ChannelRecord where
  inUse : Bool
  station : Nat
  serial : Option Serial
  restPos : Nat
  travelMin : Nat
  travelMax : Nat
  smokeMode : Mode
  zones : BitVec 16
  role : Role
  fallbackPos : Option Nat
  facing : Facing
  rainExposed : Bool
  rainCap : Nat
  stormCap : Nat
  deadband : Nat
  strokeMm : Nat
  stallMa : Nat
  noloadMa : Nat
  deglitchMs : Nat
  progressMm : Nat
  progressWindowMs : Nat
  detectors : DetectorMarks
  faultAction : FaultAction
  relieveMm : Nat
  retryMs : Nat
  retryLimit : Nat
  reversalDwellMs : Nat
  reportReached : Bool
deriving DecidableEq, Repr

/-- A zone record (R24). -/
structure ZoneRecord where
  exhaustPos : Nat
  inletPos : Nat
deriving DecidableEq, Repr

/-- What the part assumes while the station is LOST (R45). -/
inductive TimeoutPolicy where
  | assumeStormRain | holdLast
deriving DecidableEq, Repr

/-- The weather record (R45). -/
structure WeatherRecord where
  source : Nat
  stormOn : Nat
  stormOff : Nat
  stormHoldMs : Nat
  rainHoldMs : Nat
  trimThreshold : Nat
  derateThreshold : Nat
  trimWindward : Int
  trimCross : Int
  trimLeeward : Int
  stationTimeoutMs : Nat
  policy : TimeoutPolicy
deriving DecidableEq, Repr

/-- What selects the effective contact (R34). -/
inductive ContactSource where
  | pin | forcedOn | forcedOff
deriving DecidableEq, Repr

/-- Whether an excursion of the supply latches (R128). -/
inductive SupplyMode where
  | auto | latch
deriving DecidableEq, Repr

/-- The node record (R37, R128, R157, R162, R166). In the class map bit k set means URGENT for the
kind of class map bit k; the two masks and the severity have the bit orders of section 9.6, and a set
severity bit means MAJOR. -/
structure NodeRecord where
  panelAddress : Nat
  panelTimeoutMs : Nat
  contactZone : ZoneNo
  contactSource : ContactSource
  contactDeglitchMs : Nat
  supplyMin : Nat
  supplyMax : Nat
  supplyMinMode : SupplyMode
  supplyMaxMode : SupplyMode
  classMap : BitVec 17
  noticeOrder : Nat
  noticeMask : BitVec 9
  errorMask : BitVec 8
  errorSeverity : BitVec 8
deriving DecidableEq, Repr

/-- A slot of the cycle table (R104). -/
inductive Slot where
  | channel (n : ChannelNo)
  | discover
  | idle
deriving DecidableEq, Repr

/-- A configuration set (R136). Bit n of a group entry marks channel n (R62). -/
structure ConfigSet where
  channels : Table ChannelRecord 16
  layers : LayerTable
  zones : Table ZoneRecord 16
  groups : Table (BitVec 16) 64
  weather : WeatherRecord
  node : NodeRecord
  cycle : Table Slot 24
deriving DecidableEq, Repr

/-- The staged set with its opener and write tally, all three present while staging is OPEN (R137). -/
structure Staged where
  set : ConfigSet
  opener : Nat
  tally : Nat
deriving DecidableEq, Repr

/-- The Configuration Store (chapter 8). Staging is CLOSED exactly when `staged` is absent. -/
structure Store where
  active : ConfigSet
  staged : Option Staged
  generation : Nat
deriving DecidableEq, Repr

/-! ## The Zone Unit (chapter 2) -/

/-- A zone runtime record (R25). -/
structure ZoneRuntime where
  alarm : Bool
  episode : Option Positions
  resetBlocked : Bool
deriving DecidableEq, Repr

/-- The contact deglitch (R32). The pending change is to the level other than the accepted one; it is
kept as the time at which the input took that level. -/
structure Contact where
  accepted : Level
  pendingSince : Option Nat
deriving DecidableEq, Repr

/-- Panel supervision (R38): LOST or OK, and the start time of the timer while it runs. -/
structure Supervision where
  lost : Bool
  timer : Option Nat
deriving DecidableEq, Repr

/-- The Zone Unit's state. -/
structure ZoneUnit where
  zones : Table ZoneRuntime 16
  contact : Contact
  supervision : Supervision
deriving DecidableEq, Repr

/-! ## The Weather Unit (chapter 3) -/

/-- A hold timer (R47). `running since before` has counted `before` ms at the time `since` and counts
on from there; `frozen elapsed` keeps its elapsed time. -/
inductive HoldTimer where
  | stopped
  | running (since before : Nat)
  | frozen (elapsed : Nat)
deriving DecidableEq, Repr

/-- The weather runtime record (R47). `direction` is absent while unknown; the station timer is kept
as its start time while it runs. -/
structure WeatherRuntime where
  wet : Bool
  storm : Bool
  lost : Bool
  speed : Nat
  direction : Option Sector
  rainHold : HoldTimer
  stormHold : HoldTimer
  stationTimer : Option Nat
deriving DecidableEq, Repr

/-! ## The Motion Supervisor (chapter 5) -/

/-- The states of a channel engine. -/
inductive EngineState where
  | unbound | idle | moving | dwell | retryWait | latched | held | lost
deriving DecidableEq, Repr

/-- The way a channel travels (R73). -/
inductive Direction where
  | opening | closing
deriving DecidableEq, Repr

/-- A lamp value (R97). -/
inductive Lamp where
  | off | on | blink
deriving DecidableEq, Repr

/-- The lamp a drive's answer reports (R109): a lamp, or the fourth code, which differs from every
wanted lamp. -/
inductive ReportedLamp where
  | lamp (l : Lamp)
  | unlisted
deriving DecidableEq, Repr

/-- The engine's timer with its start time (R73). -/
inductive EngineTimer where
  | dwell (start : Nat)
  | retry (start : Nat)
deriving DecidableEq, Repr

/-- NO_PROGRESS's reference (R85). -/
structure ProgressReference where
  position : Nat
  time : Nat
deriving DecidableEq, Repr

/-- A channel engine (R73). -/
structure Engine where
  state : EngineState
  direction : Option Direction
  position : Option Nat
  retryCount : Nat
  lastFault : Option Detector
  stopOwed : Bool
  timer : Option EngineTimer
  overcurrentRun : Option Nat
  noLoadRun : Option Nat
  reference : Option ProgressReference
  armed : DetectorMarks
  lampOverride : Option Lamp
  reportedLamp : Option ReportedLamp
deriving DecidableEq, Repr

/-! ## The Branch Master (chapter 6) -/

/-- The binding status of a channel (section 6.5). -/
inductive BindingStatus where
  | unbound | bound | lost
deriving DecidableEq, Repr

/-- A binding record (section 6.5). -/
structure Binding where
  status : BindingStatus
  serial : Option Serial
  misses : Option Nat
deriving DecidableEq, Repr

/-- All the part holds for one channel: its demand stack and composition result (R1, R17), its engine
(R73) and its binding record. -/
structure Channel where
  stack : Stack
  result : Option Result
  engine : Engine
  binding : Binding
deriving DecidableEq, Repr

/-- The commands of a poll (R108). -/
inductive DriveCommand where
  | hold
  | stop
  | goto (mm : Nat)
  | relieve (mm : Nat)
deriving DecidableEq, Repr

/-- A poll (R108); station 0 is ALL_STOP. -/
structure Poll where
  station : Nat
  command : DriveCommand
  lamp : Option Lamp
deriving DecidableEq, Repr

/-- The position of a drive's key switch (R69). -/
inductive Key where
  | auto | toOpen | toClose
deriving DecidableEq, Repr

/-- A drive's answer (R109), as its fifteen characters decode. -/
structure Answer where
  station : Nat
  serial : Serial
  position : Nat
  running : Bool
  current : Nat
  openEnd : Bool
  closedEnd : Bool
  key : Key
  lamp : ReportedLamp
  overtemperature : Bool
  driveSupplyFault : Bool
deriving DecidableEq, Repr

/-- What an exchange is for. A channel's exchange is `counted` until a commit changes the channel's
in_use, station or serial (R110). -/
inductive ExchangeKind where
  | channel (n : ChannelNo) (counted : Bool)
  | farewell
  | discovery
deriving DecidableEq, Repr

/-- The exchange in progress (R105): its purpose, its poll and the start of its slot. -/
structure Exchange where
  kind : ExchangeKind
  poll : Poll
  start : Nat
deriving DecidableEq, Repr

/-- Where the schedule stands: silent in repeater mode (R126), in the start period (R123), or in the
slot whose index is the cycle position (R105), each with the time it began. -/
inductive Schedule where
  | silent
  | starting (since : Nat)
  | slot (index : Fin 24) (since : Nat)
deriving DecidableEq, Repr

/-- An entry of the Stranger List (R119). -/
structure Stranger where
  station : Nat
  serial : Serial
deriving DecidableEq, Repr

/-- The Branch Master's state but for the binding records. `sent` is the poll transmitted in the slot
or start period in progress, what the branch pair shows. Both lists are oldest first. -/
structure Branch where
  schedule : Schedule
  running : Table Slot 24
  exchange : Option Exchange
  sent : Option Poll
  pointer : Nat
  strangers : List Stranger
  overflow : Bool
  farewell : List Nat
deriving DecidableEq, Repr

/-! ## The Supply Monitor (chapter 7) -/

/-- The supply state. -/
inductive SupplyState where
  | ok | low | high
deriving DecidableEq, Repr

/-- The Supply Monitor's record. `nextSample` is the time of the next sample, absent in repeater mode,
where no sample is taken (R127, R135). -/
structure Supply where
  state : SupplyState
  latched : Bool
  below : Nat
  above : Nat
  inWindow : Nat
  last : Option Nat
  nextSample : Option Nat
deriving DecidableEq, Repr

/-! ## The Vent Trunk (chapter 9) -/

/-- A trunk frame but for its check, which is computed from the rest (R160), and its len, which is the
length of the payload. -/
structure Frame where
  kind : Byte
  dst : Nat
  src : Nat
  hop : Nat
  seq : Nat
  payload : List Byte
deriving DecidableEq, Repr

/-- The six header bytes of a frame as it arrived (section 9.6). -/
structure RawHeader where
  kind : Byte
  dst : Byte
  src : Byte
  hop : Byte
  seq : Byte
  len : Byte
deriving DecidableEq, Repr

/-- A frame in a queue or in flight; `reset` marks the reply with whose transmission the pending node
reset takes effect (R159). -/
structure Entry where
  frame : Frame
  reset : Bool
deriving DecidableEq, Repr

/-- A trunk port: link status, queues (head first), the frame in flight, and whether the closing idle
gap of the last transmission is still running (R148, R149, R158). -/
structure Port where
  link : Bool
  urgent : List Entry
  normal : List Entry
  flight : Option Entry
  gap : Bool
deriving DecidableEq, Repr

/-- The Trunk Forwarder. `address` is absent in repeater mode (R150). `period` is the MODEL's own count
of the node resets and power-ons so far (assumption 11): a reception begun in an earlier period was in
progress at one of them and is abandoned (R159). -/
structure Trunk where
  address : Option Nat
  rate : LineRate
  up : Port
  down : Port
  pendingReset : Bool
  period : Nat
deriving DecidableEq, Repr

/-- The frame kinds of section 9.6. -/
inductive FrameKind where
  | zoneAlarm | zoneReset | weather | groupSet | groupRelease
  | setWrite | setCommit | setDiscard | read
  | query | collect | lampSet | channelClear | errorClear | supplyClear | nodeReset
  | reply
deriving DecidableEq, Repr

/-- The reply statuses of section 9.6. -/
inductive Status where
  | accepted | unknownKind | badTable | badIndex | badValue | notOpen | stagingOwned
  | tallyMismatch | generationMismatch | invalidSet | stillOut
deriving DecidableEq, Repr

/-! ## The Notice Unit (chapter 10) -/

/-- The line error kinds, in error_mask bit order. -/
inductive ErrorKind where
  | crcBad | malformed | loop | hopExpired | queueFull | fieldRange | unknownKind | branchCrc
deriving DecidableEq, Repr

/-- The notice kinds, in the order of the table of R161 and of the notice_mask bits. -/
inductive NoticeKind where
  | contact | supply | fault | lineMajor | lost | bound | reached | stranger | lineMinor
deriving DecidableEq, Repr

/-- The three groups of notice kinds (R161). -/
inductive NoticeGroup where
  | safety | motion | line
deriving DecidableEq, Repr

/-- A notice record (R161): a kind, with its channel and detail where it has them. -/
inductive Notice where
  | contact
  | supply (state : SupplyState)
  | fault (channel : ChannelNo) (detector : Detector)
  | lineMajor (error : ErrorKind)
  | lost (channel : ChannelNo)
  | bound (channel : ChannelNo)
  | reached (channel : ChannelNo) (target : Nat)
  | stranger (station : Nat)
  | lineMinor (error : ErrorKind)
deriving DecidableEq, Repr

/-- The port of a line error (R166). -/
inductive ErrorPort where
  | up | down | branch
deriving DecidableEq, Repr

/-- What is captured with a line error (R167): nothing (CRC_BAD), the frame's header, or the polled
station (BRANCH_CRC). -/
inductive Captured where
  | nothing
  | header (h : RawHeader)
  | station (n : Nat)
deriving DecidableEq, Repr

/-- The first-error record (R167). -/
structure FirstError where
  kind : ErrorKind
  port : ErrorPort
  captured : Captured
deriving DecidableEq, Repr

/-- The Notice Unit's state. `notices` is the pending notice set, kept in the one order of R161's
table (kind, then channel); `flags` is the line error status in error_mask bit order; `attention` is
the ATTENTION output. -/
structure NoticeUnit where
  notices : List Notice
  flags : BitVec 8
  firstError : Option FirstError
  attention : Bool
deriving DecidableEq, Repr

end Sys2Proof.Machine
end

