-- ==== Sys2Proof/Machine/Defaults.lean ====
section
/-! DEFINITION. The default set of generation 0 (section 8.6) and the power-on value of each block's
state. -/

namespace Sys2Proof.Machine

/-- Every detector marked. -/
def DetectorMarks.all : DetectorMarks := ⟨true, true, true, true⟩

/-- The default channel record (R9, R29, R46, R76, R103). -/
def defaultChannelRecord : ChannelRecord where
  inUse := false
  station := 1
  serial := none
  restPos := 0
  travelMin := 0
  travelMax := 1000
  smokeMode := .override
  zones := 0
  role := .exhaust
  fallbackPos := none
  facing := .flat
  rainExposed := true
  rainCap := 0
  stormCap := 0
  deadband := 10
  strokeMm := 500
  stallMa := 2000
  noloadMa := 0
  deglitchMs := 300
  progressMm := 2
  progressWindowMs := 3000
  detectors := DetectorMarks.all
  faultAction := .latch
  relieveMm := 0
  retryMs := 5000
  retryLimit := 3
  reversalDwellMs := 500
  reportReached := false

/-- The default layer table (R5). -/
def defaultLayers : LayerTable where
  s := ⟨7, .override, .channel, true, false⟩
  f := ⟨6, .override, .layer, false, false⟩
  w := ⟨5, .cap, .layer, true, true⟩
  m := ⟨4, .override, .layer, false, false⟩
  c := ⟨2, .override, .cell, false, false⟩
  b := ⟨0, .override, .layer, false, false⟩

/-- The default weather record (R45). -/
def defaultWeather : WeatherRecord where
  source := 0
  stormOn := 150
  stormOff := 100
  stormHoldMs := 60000
  rainHoldMs := 300000
  trimThreshold := 80
  derateThreshold := 120
  trimWindward := 0
  trimCross := 0
  trimLeeward := 0
  stationTimeoutMs := 30000
  policy := .assumeStormRain

/-- The default node record (R37, R128, R157, R169): WEATHER, ZONE_ALARM and ZONE_RESET URGENT (bits
2, 0 and 1), nothing masked, CRC_BAD, LOOP and QUEUE_FULL MAJOR (bits 0, 2 and 4). -/
def defaultNode : NodeRecord where
  panelAddress := 1
  panelTimeoutMs := 10000
  contactZone := 0
  contactSource := .pin
  contactDeglitchMs := 100
  supplyMin := 190
  supplyMax := 300
  supplyMinMode := .auto
  supplyMaxMode := .latch
  classMap := 0b111
  noticeOrder := 0
  noticeMask := 0
  errorMask := 0
  errorSeverity := 0b00010101

/-- The default set of generation 0 (section 8.6). -/
def defaultSet : ConfigSet where
  channels := Table.fill defaultChannelRecord
  layers := defaultLayers
  zones := Table.fill ⟨1000, 1000⟩
  groups := Table.fill 0
  weather := defaultWeather
  node := defaultNode
  cycle := Table.fill .discover

/-- A stack with every cell absent (R2). -/
def Stack.empty : Stack := ⟨none, none, none, none, none, none⟩

/-- The engine's power-on values (R73), which are also those of R100 and R101. -/
def Engine.powerOn : Engine where
  state := .unbound
  direction := none
  position := none
  retryCount := 0
  lastFault := none
  stopOwed := false
  timer := none
  overcurrentRun := none
  noLoadRun := none
  reference := none
  armed := DetectorMarks.all
  lampOverride := none
  reportedLamp := none

/-- A binding record of an UNBOUND channel (R124, R125). -/
def Binding.none : Binding := ⟨.unbound, Option.none, Option.none⟩

/-- A channel at power-on (R23, R73, R125). -/
def Channel.powerOn : Channel := ⟨Stack.empty, none, Engine.powerOn, Binding.none⟩

/-- The Zone Unit at power-on (R25, R32, R38): a CONTACT input that is ACTIVE starts a pending change
at once. -/
def ZoneUnit.powerOn (contact : Level) (now : Nat) : ZoneUnit where
  zones := Table.fill ⟨false, none, false⟩
  contact := ⟨.inactive, if contact = .active then some now else none⟩
  supervision := ⟨false, none⟩

/-- The weather runtime record at power-on (R47, R61). -/
def WeatherRuntime.powerOn : WeatherRuntime where
  wet := false
  storm := false
  lost := true
  speed := 0
  direction := none
  rainHold := .stopped
  stormHold := .stopped
  stationTimer := none

/-- A trunk port at power-on (R149, R159). -/
def Port.powerOn : Port := ⟨false, [], [], none, false⟩

/-- The address that a strap number gives: 0 and 63 (and no number above 63 can be strapped) put the
part in repeater mode, where it has none (R150). -/
def strapAddress (straps : Nat) : Option Nat :=
  if 1 ≤ straps ∧ straps ≤ 62 then some straps else none

/-- The Trunk Forwarder at power-on (R149, R150, R159), in a listening period of its own. -/
def Trunk.powerOn (straps : Nat) (rate : LineRate) (period : Nat) : Trunk where
  address := strapAddress straps
  rate := rate
  up := Port.powerOn
  down := Port.powerOn
  pendingReset := false
  period := period

/-- The ALL_STOP poll (R108). -/
def allStop : Poll := ⟨0, .stop, none⟩

/-- The Branch Master at power-on (R123, R125, R126): the start period with its ALL_STOP, or silence
in repeater mode. What the running table holds before slot 0 first takes it (R106, R123) the manual does
not say: DESIGN CHOICE (assumption 30), the 24 DISCOVER slots of the default set; no slot reads it. -/
def Branch.powerOn (repeater : Bool) (now : Nat) : Branch where
  schedule := if repeater then .silent else .starting now
  running := Table.fill .discover
  exchange := none
  sent := if repeater then none else some allStop
  pointer := 1
  strangers := []
  overflow := false
  farewell := []

/-- The Supply Monitor at power-on (chapter 7, R127, R135): the first sample is due when the part
starts. -/
def Supply.powerOn (repeater : Bool) (now : Nat) : Supply where
  state := .ok
  latched := false
  below := 0
  above := 0
  inWindow := 0
  last := none
  nextSample := if repeater then none else some now

/-- The Notice Unit at power-on (R169). -/
def NoticeUnit.powerOn : NoticeUnit := ⟨[], 0, none, false⟩

end Sys2Proof.Machine
end

