-- ==== Sys2Proof/Machine/State.lean ====
section
/-! DEFINITION. The state of the part, the reasons a step can stop, and the state after reset. -/

namespace Sys2Proof.Machine

/-- The state of the AV16, block by block, the millisecond time base, and the queue of waiting
commands.

`now` is the time base (chapter 0, Time). `freeCount` is the MODEL's own counter, to which the free
values of Config are applied. `pending` is the model's own queue of commands, first in first out. -/
structure State where
  now : Nat
  freeCount : Nat
  trunk : Trunk
  store : Store
  zone : ZoneUnit
  weather : WeatherRuntime
  channels : Table Channel 16
  branch : Branch
  supply : Supply
  notice : NoticeUnit
  pending : List Instr
deriving DecidableEq, Repr

/-- The faults of a step: none. The manual gives every command an effect in every state, and the part
has no stuck state. -/
inductive Fault where
deriving DecidableEq, Repr

/-- The refusals of a step. -/
inductive Refusal where
  /-- Raised by `exec` alone, for a command that has no meaning yet; no arm raises it now. Safe: it
  claims nothing of the command. -/
  | notModelled (mnemonic : String)
deriving DecidableEq, Repr

/-- The part right after reset: power-on with the time base at 0. What the spec leaves to the board
is a DESIGN CHOICE (assumption 1): straps 17, the node of the manual's worked sequences, rate 115 200
bit/s, CONTACT open. -/
def State.reset : State where
  now := 0
  freeCount := 0
  trunk := Trunk.powerOn 17 .r115200 0
  store := ⟨defaultSet, none, 0⟩
  zone := ZoneUnit.powerOn .inactive 0
  weather := WeatherRuntime.powerOn
  channels := Table.fill Channel.powerOn
  branch := Branch.powerOn false 0
  supply := Supply.powerOn false 0
  notice := NoticeUnit.powerOn
  pending := []

end Sys2Proof.Machine
end

