-- ==== Sys2Proof/Machine/Operands.lean ====
section
/-! DEFINITION. Bytes and codes: the byte order of multi-byte values, the frame check, and the code
tables of section 9.6. -/

namespace Sys2Proof.Machine

/-! ## Byte order (section 9.6: most significant byte first) -/

/-- The low eight bits of a number. -/
def byte (n : Nat) : Byte := BitVec.ofNat 8 n

/-- Two bytes, most significant first. -/
def be16 (n : Nat) : List Byte := [byte (n / 256), byte n]

/-- Four bytes, most significant first. -/
def be32 (n : Nat) : List Byte := be16 (n / 65536) ++ be16 n

/-- Six bytes, most significant first. -/
def be48 (n : Nat) : List Byte := be16 (n / 4294967296) ++ be32 n

/-- The number of two bytes. -/
def val16 (a b : Byte) : Nat := a.toNat * 256 + b.toNat

/-- The number of four bytes. -/
def val32 (a b c d : Byte) : Nat := val16 a b * 65536 + val16 c d

/-- The number of six bytes. -/
def val48 (a b c d e f : Byte) : Nat := val16 a b * 4294967296 + val32 c d e f

/-- The two's complement value of two bytes. -/
def int16 (a b : Byte) : Int := (BitVec.ofNat 16 (val16 a b)).toInt

/-- The two bytes of a signed number in two's complement. -/
def be16Int (i : Int) : List Byte := be16 (BitVec.ofInt 16 i).toNat

/-- Bits `lo` to `lo + width - 1` of a byte, as a number. -/
def bitField (b : Byte) (lo width : Nat) : Nat := b.toNat / 2 ^ lo % 2 ^ width

/-- The bit of a flag at a place. -/
def flagBit (b : Bool) (place : Nat) : Nat := if b then 2 ^ place else 0

/-- The number where it is a channel or zone number. -/
def index16 (n : Nat) : Option (Fin 16) := if h : n < 16 then some ⟨n, h⟩ else none

/-! ## The frame check (R160) -/

/-- One bit of the check: the generator is x^16 + x^12 + x^5 + 1. -/
def crcBit (r : BitVec 16) : BitVec 16 :=
  if r.msb then (r <<< 1) ^^^ 0x1021#16 else r <<< 1

/-- One byte of the check, from bit 7 to bit 0. -/
def crcByte (r : BitVec 16) (b : Byte) : BitVec 16 :=
  let start := r ^^^ (b.setWidth 16 <<< 8)
  crcBit (crcBit (crcBit (crcBit (crcBit (crcBit (crcBit (crcBit start)))))))

/-- The check of a run of characters. -/
def crc (chars : List Byte) : BitVec 16 := chars.foldl crcByte 0xFFFF#16

/-- The two characters that carry the check, high byte first. -/
def crcBytes (chars : List Byte) : List Byte := be16 (crc chars).toNat

/-- The last two characters are the check of the others. -/
def crcGood (chars : List Byte) : Bool :=
  chars.drop (chars.length - 2) == crcBytes (chars.take (chars.length - 2))

/-! ## Kind codes and class map bits (section 9.6) -/

/-- The kind code. -/
def FrameKind.code : FrameKind → Byte
  | .zoneAlarm => 0x01
  | .zoneReset => 0x02
  | .weather => 0x03
  | .groupSet => 0x04
  | .groupRelease => 0x05
  | .setWrite => 0x10
  | .setCommit => 0x11
  | .setDiscard => 0x12
  | .read => 0x13
  | .query => 0x14
  | .collect => 0x15
  | .lampSet => 0x16
  | .channelClear => 0x17
  | .errorClear => 0x18
  | .supplyClear => 0x19
  | .nodeReset => 0x1A
  | .reply => 0x20

/-- The class map bit. -/
def FrameKind.mapBit : FrameKind → Nat
  | .zoneAlarm => 0
  | .zoneReset => 1
  | .weather => 2
  | .groupSet => 3
  | .groupRelease => 4
  | .setWrite => 5
  | .setCommit => 6
  | .setDiscard => 7
  | .read => 8
  | .query => 9
  | .collect => 10
  | .lampSet => 11
  | .channelClear => 12
  | .errorClear => 13
  | .supplyClear => 14
  | .nodeReset => 15
  | .reply => 16

/-- Every frame kind. -/
def FrameKind.all : List FrameKind :=
  [.zoneAlarm, .zoneReset, .weather, .groupSet, .groupRelease, .setWrite, .setCommit, .setDiscard,
    .read, .query, .collect, .lampSet, .channelClear, .errorClear, .supplyClear, .nodeReset, .reply]

/-- The kind a code names; an unknown kind has none. -/
def kindOf (code : Byte) : Option FrameKind := FrameKind.all.find? fun k => k.code == code

/-- The broadcast kinds (section 9.3). -/
def FrameKind.isBroadcast : FrameKind → Bool
  | .zoneAlarm | .zoneReset | .weather | .groupSet | .groupRelease => true
  | _ => false

/-! ## Codes of the common enumerations (section 9.6) -/

def Mode.code : Mode → Nat
  | .override => 0
  | .cap => 1
  | .floor => 2

def modeOf : Nat → Option Mode
  | 0 => some .override
  | 1 => some .cap
  | 2 => some .floor
  | _ => none

def ModeSource.code : ModeSource → Nat
  | .layer => 0
  | .cell => 1
  | .channel => 2

def modeSourceOf : Nat → Option ModeSource
  | 0 => some .layer
  | 1 => some .cell
  | 2 => some .channel
  | _ => none

/-- The yes/no codes. -/
def boolCode (b : Bool) : Nat := if b then 1 else 0

def boolOf : Nat → Option Bool
  | 0 => some false
  | 1 => some true
  | _ => none

def Role.code : Role → Nat
  | .exhaust => 0
  | .inlet => 1

def roleOf : Nat → Option Role
  | 0 => some .exhaust
  | 1 => some .inlet
  | _ => none

def FaultAction.code : FaultAction → Nat
  | .latch => 0
  | .retry => 1
  | .reportOnly => 2

def faultActionOf : Nat → Option FaultAction
  | 0 => some .latch
  | 1 => some .retry
  | 2 => some .reportOnly
  | _ => none

def SupplyMode.code : SupplyMode → Nat
  | .auto => 0
  | .latch => 1

def supplyModeOf : Nat → Option SupplyMode
  | 0 => some .auto
  | 1 => some .latch
  | _ => none

def ContactSource.code : ContactSource → Nat
  | .pin => 0
  | .forcedOn => 1
  | .forcedOff => 2

def contactSourceOf : Nat → Option ContactSource
  | 0 => some .pin
  | 1 => some .forcedOn
  | 2 => some .forcedOff
  | _ => none

def TimeoutPolicy.code : TimeoutPolicy → Nat
  | .assumeStormRain => 0
  | .holdLast => 1

def timeoutPolicyOf : Nat → Option TimeoutPolicy
  | 0 => some .assumeStormRain
  | 1 => some .holdLast
  | _ => none

/-- The layer indices. -/
def Layer.index : Layer → Nat
  | .s => 0
  | .f => 1
  | .w => 2
  | .m => 3
  | .c => 4
  | .b => 5

def layerOf : Nat → Option Layer
  | 0 => some .s
  | 1 => some .f
  | 2 => some .w
  | 3 => some .m
  | 4 => some .c
  | 5 => some .b
  | _ => none

/-- The reply statuses. -/
def Status.code : Status → Nat
  | .accepted => 0
  | .unknownKind => 1
  | .badTable => 2
  | .badIndex => 3
  | .badValue => 4
  | .notOpen => 5
  | .stagingOwned => 6
  | .tallyMismatch => 7
  | .generationMismatch => 8
  | .invalidSet => 9
  | .stillOut => 10

def SupplyState.code : SupplyState → Nat
  | .ok => 0
  | .low => 1
  | .high => 2

def EngineState.code : EngineState → Nat
  | .unbound => 0
  | .idle => 1
  | .moving => 2
  | .dwell => 3
  | .retryWait => 4
  | .latched => 5
  | .held => 6
  | .lost => 7

def WindClass.code : WindClass → Nat
  | .windward => 0
  | .cross => 1
  | .leeward => 2
  | .neutral => 3

def Detector.code : Detector → Nat
  | .overcurrent => 0
  | .noProgress => 1
  | .noLoad => 2
  | .driveFlag => 3

def Lamp.code : Lamp → Nat
  | .off => 0
  | .on => 1
  | .blink => 2

def lampOf : Nat → Option Lamp
  | 0 => some .off
  | 1 => some .on
  | 2 => some .blink
  | _ => none

/-- The condition code of a hold timer. -/
def HoldTimer.code : HoldTimer → Nat
  | .stopped => 0
  | .running _ _ => 1
  | .frozen _ => 2

/-- The error_mask bit of a line error kind. -/
def ErrorKind.bit : ErrorKind → Nat
  | .crcBad => 0
  | .malformed => 1
  | .loop => 2
  | .hopExpired => 3
  | .queueFull => 4
  | .fieldRange => 5
  | .unknownKind => 6
  | .branchCrc => 7

/-- The notice_mask bit of a notice kind. -/
def NoticeKind.bit : NoticeKind → Nat
  | .contact => 0
  | .supply => 1
  | .fault => 2
  | .lineMajor => 3
  | .lost => 4
  | .bound => 5
  | .reached => 6
  | .stranger => 7
  | .lineMinor => 8

def ErrorPort.code : ErrorPort → Nat
  | .up => 0
  | .down => 1
  | .branch => 2

/-- The origin code of a cell. -/
def Origin.code : Origin → Nat
  | .zone z => z.1
  | .group g => g.1
  | .rain => 0
  | .storm => 1
  | .stationLost => 2
  | .supervision | .key | .rest => 0

/-- A slot record's byte. -/
def Slot.code : Slot → Nat
  | .channel n => n.1
  | .discover => 16
  | .idle => 17

/-- The slot a byte names, where it names one (R104). -/
def slotOf (n : Nat) : Option Slot :=
  match index16 n with
  | some c => some (.channel c)
  | none => if n = 16 then some .discover else if n = 17 then some .idle else none

/-- The facing a byte names, where it names one (R46). -/
def facingOf (n : Nat) : Option Facing :=
  match index16 n with
  | some c => some (.sector c)
  | none => if n = 16 then some .flat else none

def Facing.code : Facing → Nat
  | .sector n => n.1
  | .flat => 16

end Sys2Proof.Machine
end

