-- ==== Sys2Proof/Machine/Records.lean ====
section
/-! DEFINITION. The records a SET_WRITE carries and a READ returns (section 9.6): each table's
encoding, and its decoding with the write checks of the chapter that specifies the record. A decoding
that answers `none` is the refusal BAD_VALUE. -/

namespace Sys2Proof.Machine

/-- The byte at a place of a record, 0 past its end. -/
def byteAt (record : List Byte) (i : Nat) : Byte := record.getD i 0

/-- The two-byte number at a place. -/
def wordAt (record : List Byte) (i : Nat) : Nat := val16 (byteAt record i) (byteAt record (i + 1))

/-- The four-byte number at a place. -/
def longAt (record : List Byte) (i : Nat) : Nat :=
  val32 (byteAt record i) (byteAt record (i + 1)) (byteAt record (i + 2)) (byteAt record (i + 3))

/-- The number lies from `lo` to `hi`. -/
def within (n lo hi : Nat) : Bool := decide (lo ≤ n) && decide (n ≤ hi)

/-! ## Channel records -/

/-- The write checks of a channel record's numbers (R9, R29, R46, R76, R103). -/
def ChannelRecord.inRange (r : ChannelRecord) : Bool :=
  within r.station 1 31 && within r.restPos 0 1000 && within r.travelMin 0 1000
    && within r.travelMax 0 1000 && decide (r.smokeMode ≠ .cap)
    && (r.fallbackPos.all fun p => within p 0 1000)
    && within r.rainCap 0 1000 && within r.stormCap 0 1000 && within r.deadband 0 50
    && within r.strokeMm 50 1000 && within r.stallMa 100 4000 && within r.noloadMa 0 3999
    && within r.deglitchMs 50 2000 && within r.progressMm 1 50
    && within r.progressWindowMs 500 10000 && within r.relieveMm 0 50
    && within r.retryMs 500 60000 && within r.retryLimit 0 15
    && within r.reversalDwellMs 200 3000

/-- The two-byte field of an optional position, FFFF hex for absent. -/
def optionBytes (p : Option Nat) : List Byte := be16 (p.getD 0xFFFF)

/-- The position a two-byte field holds, where it is not the absent code. -/
def optionOf (n : Nat) : Option Nat := if n = 0xFFFF then none else some n

/-- The six bytes of an optional serial, 0 for absent. -/
def serialBytes (x : Option Serial) : List Byte := be48 (x.getD 0).toNat

/-- The serial a six-byte field holds, where it is not zero (R103). -/
def serialOf (n : Nat) : Option Serial := if n = 0 then none else some (BitVec.ofNat 48 n)

/-- The 42 bytes of a channel record. -/
def channelBytes (r : ChannelRecord) : List Byte :=
  [byte (boolCode r.inUse + 4 * r.role.code + 16 * r.smokeMode.code + 64 * boolCode r.rainExposed),
    byte (r.faultAction.code + 4 * boolCode r.reportReached + flagBit r.detectors.overcurrent 4
      + flagBit r.detectors.noProgress 5 + flagBit r.detectors.noLoad 6
      + flagBit r.detectors.driveFlag 7),
    byte r.station]
    ++ serialBytes r.serial ++ be16 r.restPos ++ be16 r.travelMin ++ be16 r.travelMax
    ++ be16 r.zones.toNat ++ optionBytes r.fallbackPos ++ [byte r.facing.code]
    ++ be16 r.rainCap ++ be16 r.stormCap ++ [byte r.deadband]
    ++ be16 r.strokeMm ++ be16 r.stallMa ++ be16 r.noloadMa ++ be16 r.deglitchMs
    ++ [byte r.progressMm] ++ be16 r.progressWindowMs ++ [byte r.relieveMm]
    ++ be16 r.retryMs ++ [byte r.retryLimit] ++ be16 r.reversalDwellMs

/-- The channel record of 42 bytes, where every field holds a listed value. -/
def channelOfBytes (bytes : List Byte) : Option ChannelRecord := do
  guard (bytes.length = 42)
  let inUse ← boolOf (bitField (byteAt bytes 0) 0 2)
  let role ← roleOf (bitField (byteAt bytes 0) 2 2)
  let smokeMode ← modeOf (bitField (byteAt bytes 0) 4 2)
  let rainExposed ← boolOf (bitField (byteAt bytes 0) 6 2)
  let faultAction ← faultActionOf (bitField (byteAt bytes 1) 0 2)
  let reportReached ← boolOf (bitField (byteAt bytes 1) 2 2)
  let facing ← facingOf (byteAt bytes 19).toNat
  let r : ChannelRecord :=
    { inUse, role, smokeMode, rainExposed, faultAction, reportReached, facing
      detectors := ⟨(byteAt bytes 1).getLsbD 4, (byteAt bytes 1).getLsbD 5,
        (byteAt bytes 1).getLsbD 6, (byteAt bytes 1).getLsbD 7⟩
      station := (byteAt bytes 2).toNat
      serial := serialOf (wordAt bytes 3 * 4294967296 + longAt bytes 5)
      restPos := wordAt bytes 9
      travelMin := wordAt bytes 11
      travelMax := wordAt bytes 13
      zones := BitVec.ofNat 16 (wordAt bytes 15)
      fallbackPos := optionOf (wordAt bytes 17)
      rainCap := wordAt bytes 20
      stormCap := wordAt bytes 22
      deadband := (byteAt bytes 24).toNat
      strokeMm := wordAt bytes 25
      stallMa := wordAt bytes 27
      noloadMa := wordAt bytes 29
      deglitchMs := wordAt bytes 31
      progressMm := (byteAt bytes 33).toNat
      progressWindowMs := wordAt bytes 34
      relieveMm := (byteAt bytes 36).toNat
      retryMs := wordAt bytes 37
      retryLimit := (byteAt bytes 39).toNat
      reversalDwellMs := wordAt bytes 40 }
  if r.inRange then some r else none

/-! ## Layer, zone, group and cycle records -/

/-- The write checks of a layer record (R5): B's mode is OVERRIDE. -/
def LayerRecord.inRange (layer : Layer) (r : LayerRecord) : Bool :=
  within r.priority 0 7 && (decide (layer ≠ .b) || decide (r.mode = .override))

def layerBytes (r : LayerRecord) : List Byte :=
  [byte r.priority, byte r.mode.code, byte r.source.code,
    byte (flagBit r.trim 0 + flagBit r.derate 1)]

def layerOfBytes (layer : Layer) : List Byte → Option LayerRecord
  | [b0, b1, b2, b3] => do
    let mode ← modeOf b1.toNat
    let source ← modeSourceOf b2.toNat
    let r : LayerRecord :=
      { mode, source, priority := b0.toNat, trim := b3.getLsbD 0, derate := b3.getLsbD 1 }
    if b3.toNat < 4 && r.inRange layer then some r else none
  | _ => none

/-- The write checks of a zone record (R24). -/
def ZoneRecord.inRange (r : ZoneRecord) : Bool :=
  within r.exhaustPos 0 1000 && within r.inletPos 0 1000

def zoneBytes (r : ZoneRecord) : List Byte := be16 r.exhaustPos ++ be16 r.inletPos

def zoneOfBytes : List Byte → Option ZoneRecord
  | [b0, b1, b2, b3] =>
    let r : ZoneRecord := ⟨val16 b0 b1, val16 b2 b3⟩
    if r.inRange then some r else none
  | _ => none

def groupBytes (g : BitVec 16) : List Byte := be16 g.toNat

/-- Every two bytes are an entry (R62). -/
def groupOfBytes : List Byte → Option (BitVec 16)
  | [b0, b1] => some (BitVec.ofNat 16 (val16 b0 b1))
  | _ => none

def slotBytes (x : Slot) : List Byte := [byte x.code]

def slotOfBytes : List Byte → Option Slot
  | [b0] => slotOf b0.toNat
  | _ => none

/-! ## The weather record -/

/-- A trim in range (R45). -/
def trimInRange (t : Int) : Bool := decide (-1000 ≤ t) && decide (t ≤ 1000)

/-- The write checks of the weather record (R45). -/
def WeatherRecord.inRange (r : WeatherRecord) : Bool :=
  within r.source 0 62 && within r.stormOn 0 600 && within r.stormOff 0 600
    && within r.stormHoldMs 1000 600000 && within r.rainHoldMs 10000 3600000
    && within r.trimThreshold 0 600 && within r.derateThreshold 0 600
    && trimInRange r.trimWindward && trimInRange r.trimCross && trimInRange r.trimLeeward
    && within r.stationTimeoutMs 5000 120000

/-- The 28 bytes of the weather record. -/
def weatherBytes (r : WeatherRecord) : List Byte :=
  [byte r.source] ++ be16 r.stormOn ++ be16 r.stormOff ++ be32 r.stormHoldMs ++ be32 r.rainHoldMs
    ++ be16 r.trimThreshold ++ be16 r.derateThreshold
    ++ be16Int r.trimWindward ++ be16Int r.trimCross ++ be16Int r.trimLeeward
    ++ be32 r.stationTimeoutMs ++ [byte r.policy.code]

def weatherOfBytes (bytes : List Byte) : Option WeatherRecord := do
  guard (bytes.length = 28)
  let policy ← timeoutPolicyOf (byteAt bytes 27).toNat
  let r : WeatherRecord :=
    { policy
      source := (byteAt bytes 0).toNat
      stormOn := wordAt bytes 1
      stormOff := wordAt bytes 3
      stormHoldMs := longAt bytes 5
      rainHoldMs := longAt bytes 9
      trimThreshold := wordAt bytes 13
      derateThreshold := wordAt bytes 15
      trimWindward := int16 (byteAt bytes 17) (byteAt bytes 18)
      trimCross := int16 (byteAt bytes 19) (byteAt bytes 20)
      trimLeeward := int16 (byteAt bytes 21) (byteAt bytes 22)
      stationTimeoutMs := longAt bytes 23 }
  if r.inRange then some r else none

/-! ## The node record -/

/-- The write checks of the node record (R37, R128, R157, R169): ZONE_ALARM and ZONE_RESET are
URGENT. -/
def NodeRecord.inRange (r : NodeRecord) : Bool :=
  within r.panelAddress 1 62 && within r.panelTimeoutMs 1000 60000
    && within r.contactDeglitchMs 10 2000 && within r.supplyMin 150 280
    && within r.supplyMax 200 350 && r.classMap.getLsbD 0 && r.classMap.getLsbD 1
    && within r.noticeOrder 0 5

/-- The 20 bytes of the node record. -/
def nodeBytes (r : NodeRecord) : List Byte :=
  [byte r.panelAddress] ++ be16 r.panelTimeoutMs
    ++ [byte r.contactZone.1, byte r.contactSource.code]
    ++ be16 r.contactDeglitchMs ++ be16 r.supplyMin ++ be16 r.supplyMax
    ++ [byte (r.supplyMinMode.code + 4 * r.supplyMaxMode.code),
      byte (r.classMap.toNat / 65536)] ++ be16 r.classMap.toNat
    ++ [byte r.noticeOrder] ++ be16 r.noticeMask.toNat ++ [r.errorMask, r.errorSeverity]

/-- The node record of 20 bytes, where every field holds a listed value and no reserved bit is set. -/
def nodeOfBytes (bytes : List Byte) : Option NodeRecord := do
  guard (bytes.length = 20)
  let contactZone ← index16 (byteAt bytes 3).toNat
  let contactSource ← contactSourceOf (byteAt bytes 4).toNat
  let supplyMinMode ← supplyModeOf (bitField (byteAt bytes 11) 0 2)
  let supplyMaxMode ← supplyModeOf (bitField (byteAt bytes 11) 2 2)
  let r : NodeRecord :=
    { contactZone, contactSource, supplyMinMode, supplyMaxMode
      panelAddress := (byteAt bytes 0).toNat
      panelTimeoutMs := wordAt bytes 1
      contactDeglitchMs := wordAt bytes 5
      supplyMin := wordAt bytes 7
      supplyMax := wordAt bytes 9
      classMap := BitVec.ofNat 17 ((byteAt bytes 12).toNat * 65536 + wordAt bytes 13)
      noticeOrder := (byteAt bytes 15).toNat
      noticeMask := BitVec.ofNat 9 (wordAt bytes 16)
      errorMask := byteAt bytes 18
      errorSeverity := byteAt bytes 19 }
  if (byteAt bytes 11).toNat < 16 && (byteAt bytes 12).toNat < 2 && wordAt bytes 16 < 512 && r.inRange then some r else none

/-! ## Tables by code (section 9.6) -/

/-- The seven tables of a set (R136). -/
inductive TableName where
  | channel | layer | zone | group | weather | node | cycle
deriving DecidableEq, Repr

def tableOf : Nat → Option TableName
  | 1 => some .channel
  | 2 => some .layer
  | 3 => some .zone
  | 4 => some .group
  | 5 => some .weather
  | 6 => some .node
  | 7 => some .cycle
  | _ => none

/-- The table code of the Stranger List. -/
def strangersCode : Nat := 8

/-- The length of a table's record. -/
def TableName.recordLength : TableName → Nat
  | .channel => 42
  | .layer => 4
  | .zone => 4
  | .group => 2
  | .weather => 28
  | .node => 20
  | .cycle => 1

/-- The number of a table's records (R136). -/
def TableName.count : TableName → Nat
  | .channel => 16
  | .layer => 6
  | .zone => 16
  | .group => 64
  | .weather => 1
  | .node => 1
  | .cycle => 24

/-- The record of a layer. -/
def LayerTable.get (t : LayerTable) : Layer → LayerRecord
  | .s => t.s
  | .f => t.f
  | .w => t.w
  | .m => t.m
  | .c => t.c
  | .b => t.b

/-- The table with a layer's record replaced. -/
def LayerTable.set (t : LayerTable) (r : LayerRecord) : Layer → LayerTable
  | .s => { t with s := r }
  | .f => { t with f := r }
  | .w => { t with w := r }
  | .m => { t with m := r }
  | .c => { t with c := r }
  | .b => { t with b := r }

/-- The bytes of one record of a set (R144); empty for an index outside the table's. -/
def ConfigSet.recordBytes (set : ConfigSet) (table : TableName) (index : Nat) : List Byte :=
  match table with
  | .channel => if h : index < 16 then channelBytes (set.channels.get ⟨index, h⟩) else []
  | .layer =>
    match layerOf index with
    | some l => layerBytes (set.layers.get l)
    | none => []
  | .zone => if h : index < 16 then zoneBytes (set.zones.get ⟨index, h⟩) else []
  | .group => if h : index < 64 then groupBytes (set.groups.get ⟨index, h⟩) else []
  | .weather => weatherBytes set.weather
  | .node => nodeBytes set.node
  | .cycle => if h : index < 24 then slotBytes (set.cycle.get ⟨index, h⟩) else []

/-- The set with one record replaced by the record the bytes spell (R139); `none` where the index is
outside the table's or a field holds a value its table does not allow. -/
def ConfigSet.write (set : ConfigSet) (table : TableName) (index : Nat) (record : List Byte) :
    Option ConfigSet :=
  match table with
  | .channel =>
    if h : index < 16 then
      (channelOfBytes record).map fun r => { set with channels := set.channels.set ⟨index, h⟩ r }
    else none
  | .layer =>
    match layerOf index with
    | some l => (layerOfBytes l record).map fun r => { set with layers := set.layers.set r l }
    | none => none
  | .zone =>
    if h : index < 16 then
      (zoneOfBytes record).map fun r => { set with zones := set.zones.set ⟨index, h⟩ r }
    else none
  | .group =>
    if h : index < 64 then
      (groupOfBytes record).map fun r => { set with groups := set.groups.set ⟨index, h⟩ r }
    else none
  | .weather => (weatherOfBytes record).map fun r => { set with weather := r }
  | .node => (nodeOfBytes record).map fun r => { set with node := r }
  | .cycle =>
    if h : index < 24 then
      (slotOfBytes record).map fun r => { set with cycle := set.cycle.set ⟨index, h⟩ r }
    else none

end Sys2Proof.Machine
end

