-- ==== Sys2Proof/Machine/Frames.lean ====
section
/-! DEFINITION. Trunk frames, branch polls and drive answers as characters (section 9.6). -/

namespace Sys2Proof.Machine

/-! ## Trunk frames -/

/-- The six header bytes of a frame. -/
def Frame.header (f : Frame) : RawHeader where
  kind := f.kind
  dst := byte f.dst
  src := byte f.src
  hop := byte f.hop
  seq := byte f.seq
  len := byte f.payload.length

/-- The six header bytes in order. -/
def RawHeader.bytes (h : RawHeader) : List Byte := [h.kind, h.dst, h.src, h.hop, h.seq, h.len]

/-- The characters of a frame before its check. -/
def Frame.body (f : Frame) : List Byte := f.header.bytes ++ f.payload

/-- The characters of a frame as it is transmitted. -/
def Frame.chars (f : Frame) : List Byte := f.body ++ crcBytes f.body

/-- What the first two receive checks make of a reception (R151). -/
inductive Judged where
  | crcBad
  | malformed (h : RawHeader)
  | frame (f : Frame)
deriving DecidableEq, Repr

/-- The form check of a header (R151 check 2, section 9.6): every field within its range, no reserved
bit set, and len the number of characters received less 8. -/
def RawHeader.inForm (h : RawHeader) (length : Nat) : Bool :=
  decide (h.dst.toNat ≤ 62) && decide (1 ≤ h.src.toNat) && decide (h.src.toNat ≤ 62)
    && decide (h.hop.toNat ≤ 31) && decide (h.len.toNat ≤ 48) && decide (h.len.toNat + 8 = length)

/-- The frame check, then the form check (R151). -/
def judgeReception (chars : List Byte) : Judged :=
  if chars.length < 8 ∨ crcGood chars = false then .crcBad
  else
    match chars with
    | kind :: dst :: src :: hop :: seq :: len :: rest =>
      let h : RawHeader := ⟨kind, dst, src, hop, seq, len⟩
      if h.inForm chars.length then
        .frame ⟨kind, dst.toNat, src.toNat, hop.toNat, seq.toNat, rest.take len.toNat⟩
      else .malformed h
    | _ => .crcBad

/-- A frame of a kind under the header of a command. -/
def frameUnder (rx : Rx) (kind : FrameKind) (payload : List Byte) : Frame :=
  ⟨kind.code, rx.dst, rx.src, rx.hop, rx.seq, payload⟩

/-- A frame of an unknown kind. -/
def unknownKindFrame (rx : Rx) (kind : Byte) (payload : List Byte) : Frame :=
  ⟨kind, rx.dst, rx.src, rx.hop, rx.seq, payload⟩

/-! Section 9.6, Payloads: the frame of each kind. -/

def zoneAlarmFrame (rx : Rx) (zone : Nat) (episode : Option Positions) : Frame :=
  frameUnder rx .zoneAlarm
    (byte zone :: match episode with
      | none => []
      | some p => be16 p.exhaust ++ be16 p.inlet)

def zoneResetFrame (rx : Rx) (zone : Nat) : Frame := frameUnder rx .zoneReset [byte zone]

def weatherFrame (rx : Rx) (speed direction rain : Nat) : Frame :=
  frameUnder rx .weather (be16 speed ++ [byte direction, byte rain])

def groupSetFrame (rx : Rx) (group position mode : Nat) : Frame :=
  frameUnder rx .groupSet (byte group :: be16 position ++ [byte mode])

def groupReleaseFrame (rx : Rx) (group : Nat) : Frame := frameUnder rx .groupRelease [byte group]

def setWriteFrame (rx : Rx) (table index : Nat) (record : List Byte) : Frame :=
  frameUnder rx .setWrite (byte table :: byte index :: record)

def setCommitFrame (rx : Rx) (tally generation : Nat) : Frame :=
  frameUnder rx .setCommit (be16 tally ++ be32 generation)

def setDiscardFrame (rx : Rx) : Frame := frameUnder rx .setDiscard []

def readFrame (rx : Rx) (table index copy : Nat) : Frame :=
  frameUnder rx .read [byte table, byte index, byte copy]

def queryFrame (rx : Rx) (subject index : Nat) : Frame :=
  frameUnder rx .query [byte subject, byte index]

def collectFrame (rx : Rx) : Frame := frameUnder rx .collect []

def lampSetFrame (rx : Rx) (channel value : Nat) : Frame :=
  frameUnder rx .lampSet [byte channel, byte value]

def channelClearFrame (rx : Rx) (channel : Nat) : Frame :=
  frameUnder rx .channelClear [byte channel]

def errorClearFrame (rx : Rx) : Frame := frameUnder rx .errorClear []

def supplyClearFrame (rx : Rx) : Frame := frameUnder rx .supplyClear []

def nodeResetFrame (rx : Rx) : Frame := frameUnder rx .nodeReset []

/-- The port and frame of a trunk command whose kind an owner acts on, or of an unknown kind; the
other commands are no frames. -/
def frameOf : Instr → Option (TrunkPort × Frame)
  | .unknownKind rx kind payload => some (rx.port, unknownKindFrame rx kind payload)
  | .zoneAlarm rx zone episode => some (rx.port, zoneAlarmFrame rx zone episode)
  | .zoneReset rx zone => some (rx.port, zoneResetFrame rx zone)
  | .weather rx speed direction rain => some (rx.port, weatherFrame rx speed direction rain)
  | .groupSet rx group position mode => some (rx.port, groupSetFrame rx group position mode)
  | .groupRelease rx group => some (rx.port, groupReleaseFrame rx group)
  | .setWrite rx table index record => some (rx.port, setWriteFrame rx table index record)
  | .setCommit rx tally generation => some (rx.port, setCommitFrame rx tally generation)
  | .setDiscard rx => some (rx.port, setDiscardFrame rx)
  | .read rx table index copy => some (rx.port, readFrame rx table index copy)
  | .query rx subject index => some (rx.port, queryFrame rx subject index)
  | .collect rx => some (rx.port, collectFrame rx)
  | .lampSet rx channel value => some (rx.port, lampSetFrame rx channel value)
  | .channelClear rx channel => some (rx.port, channelClearFrame rx channel)
  | .errorClear rx => some (rx.port, errorClearFrame rx)
  | .supplyClear rx => some (rx.port, supplyClearFrame rx)
  | .nodeReset rx => some (rx.port, nodeResetFrame rx)
  | _ => none

/-- The payload length that section 9.6 gives a kind (R153), SET_WRITE's by the table its first
payload byte names: with at least two bytes and a code that names no table, the Configuration Store
judges it. -/
def lengthAllowed (kind : FrameKind) (payload : List Byte) : Bool :=
  match kind with
  | .zoneAlarm => payload.length == 1 || payload.length == 5
  | .zoneReset | .groupRelease | .channelClear => payload.length == 1
  | .weather | .groupSet => payload.length == 4
  | .setWrite =>
    match payload with
    | table :: _ :: record =>
      match tableOf table.toNat with
      | some t => record.length == t.recordLength
      | none => true
    | _ => false
  | .setCommit => payload.length == 6
  | .read => payload.length == 3
  | .query | .lampSet => payload.length == 2
  | .setDiscard | .collect | .errorClear | .supplyClear | .nodeReset => payload.length == 0
  | .reply => decide (2 ≤ payload.length)

/-- The command a frame's kind and payload spell, where the kind is an owner's and the payload has an
allowed length. -/
def commandOf (port : TrunkPort) (f : Frame) : Option Instr :=
  let rx : Rx := ⟨port, f.dst, f.src, f.hop, f.seq⟩
  match kindOf f.kind with
  | none => some (.unknownKind rx f.kind f.payload)
  | some k =>
    if lengthAllowed k f.payload then
      match k, f.payload with
      | .zoneAlarm, [z] => some (.zoneAlarm rx z.toNat none)
      | .zoneAlarm, [z, a, b, c, d] => some (.zoneAlarm rx z.toNat (some ⟨val16 a b, val16 c d⟩))
      | .zoneReset, [z] => some (.zoneReset rx z.toNat)
      | .weather, [a, b, c, d] => some (.weather rx (val16 a b) c.toNat d.toNat)
      | .groupSet, [g, a, b, m] => some (.groupSet rx g.toNat (val16 a b) m.toNat)
      | .groupRelease, [g] => some (.groupRelease rx g.toNat)
      | .setWrite, t :: i :: record => some (.setWrite rx t.toNat i.toNat record)
      | .setCommit, [a, b, c, d, e, g] => some (.setCommit rx (val16 a b) (val32 c d e g))
      | .setDiscard, [] => some (.setDiscard rx)
      | .read, [t, i, c] => some (.read rx t.toNat i.toNat c.toNat)
      | .query, [x, i] => some (.query rx x.toNat i.toNat)
      | .collect, [] => some (.collect rx)
      | .lampSet, [c, v] => some (.lampSet rx c.toNat v.toNat)
      | .channelClear, [c] => some (.channelClear rx c.toNat)
      | .errorClear, [] => some (.errorClear rx)
      | .supplyClear, [] => some (.supplyClear rx)
      | .nodeReset, [] => some (.nodeReset rx)
      | _, _ => none
    else none

/-! ## Branch polls and answers -/

/-- The command byte of a poll. -/
def DriveCommand.code : DriveCommand → Nat
  | .hold => 0
  | .stop => 1
  | .goto _ => 2
  | .relieve _ => 3

/-- The argument of a poll. -/
def DriveCommand.argument : DriveCommand → Nat
  | .goto mm => mm
  | .relieve mm => mm
  | _ => 0

/-- The lamp field of a poll: 0 for none. -/
def lampField : Option Lamp → Nat
  | none => 0
  | some l => l.code + 1

/-- The characters of a poll before its check. -/
def Poll.body (p : Poll) : List Byte :=
  [byte p.station, byte p.command.code] ++ be16 p.command.argument ++ [byte (lampField p.lamp)]

/-- The seven characters of a poll as it is transmitted (R108, section 9.6). R160 gives the check of frames
and of answers and says nothing of a poll's: it is computed in the same way over the poll's other
characters, DESIGN CHOICE (assumption 32), unsafe. -/
def Poll.chars (p : Poll) : List Byte := p.body ++ crcBytes p.body

def Key.code : Key → Nat
  | .auto => 0
  | .toOpen => 1
  | .toClose => 2

/-- The key position a code is read as; the fourth code is AUTO (R69). -/
def keyOf : Nat → Key
  | 1 => .toOpen
  | 2 => .toClose
  | _ => .auto

def ReportedLamp.code : ReportedLamp → Nat
  | .lamp l => l.code
  | .unlisted => 3

/-- The lamp a code reports (R109). -/
def reportedLampOf (n : Nat) : ReportedLamp :=
  match lampOf n with
  | some l => .lamp l
  | none => .unlisted

/-- The characters of an answer before its check. -/
def Answer.body (a : Answer) : List Byte :=
  [byte a.station] ++ be48 a.serial.toNat ++ be16 a.position
    ++ [byte (flagBit a.running 0 + flagBit a.openEnd 1 + flagBit a.closedEnd 2
      + flagBit a.overtemperature 3 + flagBit a.driveSupplyFault 4)]
    ++ be16 a.current ++ [byte (a.key.code + 4 * a.lamp.code)]

/-- The fifteen characters of an answer as a drive transmits it. -/
def Answer.chars (a : Answer) : List Byte := a.body ++ crcBytes a.body

/-- The fields of a reception of fifteen characters whose check is good and whose serial is not zero
(R109, R110); `none` is a garbled answer. Ignored bits are passed over, and a current above 4000 is
taken as 4000. -/
def answerOf (chars : List Byte) : Option Answer :=
  match chars with
  | [b0, b1, b2, b3, b4, b5, b6, b7, b8, b9, b10, b11, b12, _, _] =>
    if crcGood chars && val48 b1 b2 b3 b4 b5 b6 != 0 then
      some
        { station := b0.toNat
          serial := BitVec.ofNat 48 (val48 b1 b2 b3 b4 b5 b6)
          position := val16 b7 b8 % 1024
          running := b9.getLsbD 0
          openEnd := b9.getLsbD 1
          closedEnd := b9.getLsbD 2
          overtemperature := b9.getLsbD 3
          driveSupplyFault := b9.getLsbD 4
          current := min (val16 b10 b11 % 4096) 4000
          key := keyOf (bitField b12 0 2)
          lamp := reportedLampOf (bitField b12 2 2) }
    else none
  | _ => none

/-- A valid answer to a poll of `station` (R110): `none` is a garbled answer. -/
def validAnswer (station : Nat) (chars : List Byte) : Option Answer :=
  match answerOf chars with
  | some a => if a.station = station then some a else none
  | none => none

end Sys2Proof.Machine
end

