-- ==== Sys2Proof/Machine/Compose.lean ====
section
/-! DEFINITION. The Demand Composer: the fold, trim, derate and travel clamp of one channel
(chapter 1), and the wind classification it uses (section 3.7). -/

namespace Sys2Proof.Machine

/-- The cell of a layer. -/
def Stack.get (st : Stack) : Layer → Option Cell
  | .s => st.s
  | .f => st.f
  | .w => st.w
  | .m => st.m
  | .c => st.c
  | .b => st.b

/-- The stack with a layer's cell written. -/
def Stack.set (st : Stack) (cell : Option Cell) : Layer → Stack
  | .s => { st with s := cell }
  | .f => { st with f := cell }
  | .w => { st with w := cell }
  | .m => { st with m := cell }
  | .c => { st with c := cell }
  | .b => { st with b := cell }

/-! ## The fold (R10 to R12) -/

/-- The layer placed before the first layer of a higher or equal priority. -/
def insertByPriority (t : LayerTable) (l : Layer) : List Layer → List Layer
  | [] => [l]
  | x :: rest =>
    if (t.get l).priority ≤ (t.get x).priority then l :: x :: rest
    else x :: insertByPriority t l rest

/-- The layers S, F, W, M and C in ascending order of priority (R10). -/
def foldOrder (t : LayerTable) : List Layer :=
  [Layer.s, .f, .w, .m, .c].foldr (insertByPriority t) []

/-- The effective mode of a layer's cell (R8). -/
def effectiveMode (t : LayerTable) (smokeMode : Mode) (l : Layer) (cell : Cell) : Mode :=
  match (t.get l).source with
  | .layer => (t.get l).mode
  | .cell => cell.carried.getD (t.get l).mode
  | .channel => smokeMode

/-- The running value and deciding layer of a fold. -/
structure Running where
  value : Nat
  layer : Layer
deriving DecidableEq, Repr

/-- What a present cell does to the running value (R11). -/
def actOn (mode : Mode) (l : Layer) (cell : Cell) (r : Running) : Running :=
  match mode with
  | .override => ⟨cell.value, l⟩
  | .cap => if cell.value < r.value then ⟨cell.value, l⟩ else r
  | .floor => if r.value < cell.value then ⟨cell.value, l⟩ else r

/-- One step of the fold: a present cell acts, an absent one is skipped. -/
def foldStep (t : LayerTable) (smokeMode : Mode) (st : Stack) (r : Running) (l : Layer) : Running :=
  match st.get l with
  | some cell => actOn (effectiveMode t smokeMode l cell) l cell r
  | none => r

/-- The start of a fold: the B cell's value, which is the rest position (R3, R10). -/
def foldStart (rec : ChannelRecord) (st : Stack) : Running :=
  ⟨(st.b.map (·.value)).getD rec.restPos, .b⟩

/-- The fold of a channel (R10). -/
def foldCells (t : LayerTable) (rec : ChannelRecord) (st : Stack) : Running :=
  (foldOrder t).foldl (foldStep t rec.smokeMode st) (foldStart rec st)

/-! ## Wind classification (R56) -/

/-- The number of sectors between two sectors, the shorter way round. -/
def sectorDistance (a b : Sector) : Nat :=
  let apart := (a.1 - b.1) + (b.1 - a.1)
  min apart (16 - apart)

/-- The class of a distance. -/
def classOfDistance (d : Nat) : WindClass :=
  if d ≤ 2 then .windward else if d ≤ 5 then .cross else .leeward

/-- The station is LOST under ASSUME_STORM_RAIN (R54). -/
def assumesWorst (policy : TimeoutPolicy) (w : WeatherRuntime) : Bool :=
  w.lost && decide (policy = .assumeStormRain)

/-- The wind class of a facing (R56). -/
def windClass (policy : TimeoutPolicy) (w : WeatherRuntime) (facing : Facing) : WindClass :=
  match facing, w.direction with
  | .sector f, some d => if assumesWorst policy w then .neutral else classOfDistance (sectorDistance d f)
  | _, _ => .neutral

/-! ## Trim, derate and travel clamp (R14 to R16) -/

/-- The trim of a class; NEUTRAL has none. -/
def trimOf (r : WeatherRecord) : WindClass → Int
  | .windward => r.trimWindward
  | .cross => r.trimCross
  | .leeward => r.trimLeeward
  | .neutral => 0

/-- A sum brought into 0 to 1000. -/
def saturate (i : Int) : Nat := (max 0 (min 1000 i)).toNat

/-- Trim applies (R14). -/
def trimApplies (t : LayerTable) (r : WeatherRecord) (cls : WindClass) (speed : Nat) (x : Running) :
    Bool :=
  (t.get x.layer).trim && decide (0 < x.value) && decide (cls ≠ .neutral)
    && decide (r.trimThreshold ≤ speed)

/-- Derate applies (R15). -/
def derateApplies (t : LayerTable) (r : WeatherRecord) (cls : WindClass) (speed : Nat) (l : Layer) :
    Bool :=
  (t.get l).derate && decide (cls = .windward) && decide (r.derateThreshold ≤ speed)

/-- The travel clamp (R16). -/
def clampTravel (rec : ChannelRecord) (v : Nat) : Nat :=
  if v < rec.travelMin then rec.travelMin
  else if rec.travelMax < v then rec.travelMax
  else v

/-- The composition of an in-use channel (R10 to R17). -/
def compose (set : ConfigSet) (w : WeatherRuntime) (rec : ChannelRecord) (st : Stack) : Result :=
  let x := foldCells set.layers rec st
  let cls := windClass set.weather.policy w rec.facing
  let trimmed := trimApplies set.layers set.weather cls w.speed x
  let afterTrim := if trimmed then saturate (x.value + trimOf set.weather cls) else x.value
  let derated := derateApplies set.layers set.weather cls w.speed x.layer
  let afterDerate := if derated then afterTrim / 2 else afterTrim
  let target := clampTravel rec afterDerate
  { target
    layer := x.layer
    wind := cls
    trimmed
    derated
    clamped := decide (target ≠ afterDerate) }

/-! ## What the producers of demand place -/

/-- A zone's position for a role (R30). -/
def zonePosition (role : Role) (rec : ZoneRecord) (zone : ZoneRuntime) : Nat :=
  match role, zone.episode with
  | .exhaust, some p => p.exhaust
  | .inlet, some p => p.inlet
  | .exhaust, none => rec.exhaustPos
  | .inlet, none => rec.inletPos

/-- The zone takes the cell where it is in ALARM and asks for more than the zones before it. -/
def takeZone (set : ConfigSet) (zones : Table ZoneRuntime 16) (rec : ChannelRecord)
    (best : Option Cell) (z : ZoneNo) : Option Cell :=
  if rec.zones.getLsbD z.1 && (zones.get z).alarm then
    let p := zonePosition rec.role (set.zones.get z) (zones.get z)
    match best with
    | none => some ⟨p, .zone z, none⟩
    | some c => if c.value < p then some ⟨p, .zone z, none⟩ else best
  else best

/-- The S cell of a channel (R30): the largest position of its zones in ALARM, with the lowest such
zone as origin. -/
def smokeCell (set : ConfigSet) (zones : Table ZoneRuntime 16) (rec : ChannelRecord) : Option Cell :=
  (List.finRange 16).foldl (takeZone set zones rec) none

/-- The F cell of a channel (R41). -/
def fallbackCell (lost : Bool) (rec : ChannelRecord) : Option Cell :=
  if lost then rec.fallbackPos.map fun p => ⟨p, .supervision, none⟩ else none

/-- The W cell of a channel (R57). -/
def weatherCell (policy : TimeoutPolicy) (w : WeatherRuntime) (rec : ChannelRecord) : Option Cell :=
  let worst := assumesWorst policy w
  let rain := (w.wet || worst) && rec.rainExposed
  let storm := w.storm || worst
  let named := fun o : Origin => if worst then Origin.stationLost else o
  if rain && storm then
    if rec.rainCap ≤ rec.stormCap then some ⟨rec.rainCap, named .rain, none⟩
    else some ⟨rec.stormCap, named .storm, none⟩
  else if rain then some ⟨rec.rainCap, named .rain, none⟩
  else if storm then some ⟨rec.stormCap, named .storm, none⟩
  else none

/-- The M cell a key position asks for (R70). -/
def keyCell : Key → Option Cell
  | .toOpen => some ⟨1000, .key, none⟩
  | .toClose => some ⟨0, .key, none⟩
  | .auto => none

/-- The B cell of a channel (R3). -/
def baseCell (rec : ChannelRecord) : Cell := ⟨rec.restPos, .rest, none⟩

/-- The C cell a commit leaves (R67): kept where its origin group still contains the channel. -/
def keptComfort (groups : Table (BitVec 16) 64) (n : ChannelNo) (cell : Option Cell) : Option Cell :=
  match cell with
  | some ⟨v, .group g, m⟩ => if (groups.get g).getLsbD n.1 then some ⟨v, .group g, m⟩ else none
  | _ => none

end Sys2Proof.Machine
end

