-- ==== Sys2Proof/Machine/Engine.lean ====
section
/-! DEFINITION. The channel engine (chapter 5): its command, the move test, hand-overs, the detectors
and fault actions, as functions of one channel's record, result and engine. -/

namespace Sys2Proof.Machine

/-- What an engine reads besides its own channel: the set, the weather record, whether the supply
state is OK, and the time of the event. -/
structure Ctx where
  set : ConfigSet
  weather : WeatherRuntime
  supplyOk : Bool
  now : Nat
deriving DecidableEq, Repr

/-! ## Scales (R75) -/

/-- The distance of two numbers. -/
def apart (a b : Nat) : Nat := (a - b) + (b - a)

/-- The setpoint of a target, in millimetres. -/
def setpoint (rec : ChannelRecord) (target : Nat) : Nat := (target * rec.strokeMm + 500) / 1000

/-- The position in per-mille of a reported position. -/
def perMille (rec : ChannelRecord) (mm : Nat) : Nat :=
  min 1000 ((mm * 1000 + rec.strokeMm / 2) / rec.strokeMm)

/-- A drive at `mm` counts as at the target (the tests of R77, R80 and R81). -/
def atTarget (rec : ChannelRecord) (target mm : Nat) : Bool :=
  decide (apart target (perMille rec mm) ≤ rec.deadband) || decide (setpoint rec target = mm)

/-! ## Marks -/

def DetectorMarks.get (d : DetectorMarks) : Detector → Bool
  | .overcurrent => d.overcurrent
  | .noProgress => d.noProgress
  | .noLoad => d.noLoad
  | .driveFlag => d.driveFlag

def DetectorMarks.set (d : DetectorMarks) (v : Bool) : Detector → DetectorMarks
  | .overcurrent => { d with overcurrent := v }
  | .noProgress => { d with noProgress := v }
  | .noLoad => { d with noLoad := v }
  | .driveFlag => { d with driveFlag := v }

/-! ## Transitions -/

/-- The engine in a state that is neither MOVING nor DWELL: direction and timer absent, runs and
reference cleared, every detector armed (R73, R83). -/
def Engine.rest (e : Engine) (state : EngineState) : Engine :=
  { e with
    state
    direction := none
    timer := none
    overcurrentRun := none
    noLoadRun := none
    reference := none
    armed := DetectorMarks.all }

/-- The progress reference of a position now; a disabled detector keeps none (R83, R85). -/
def referenceAt (ctx : Ctx) (rec : ChannelRecord) (mm : Nat) : Option ProgressReference :=
  if rec.detectors.noProgress then some ⟨mm, ctx.now⟩ else none

/-- Entry into MOVING (R74, R77). -/
def Engine.move (ctx : Ctx) (rec : ChannelRecord) (dir : Direction) (mm : Nat) (e : Engine) : Engine :=
  { e.rest .moving with
    direction := some dir
    reference := referenceAt ctx rec mm
    stopOwed := false }

/-- Entry into HELD (R74, R94). -/
def Engine.hold (e : Engine) : Engine := { e.rest .held with stopOwed := true }

/-- Entry into DWELL from MOVING (R74, R81): the direction, the OVERCURRENT run and the armed marks
carry over. -/
def Engine.enterDwell (now : Nat) (e : Engine) : Engine :=
  { e with
    state := .dwell
    timer := some (.dwell now)
    noLoadRun := none
    reference := none
    stopOwed := true }

/-- Entry into RETRY_WAIT, its retry timer started (R88, R91, R92). -/
def Engine.wait (now : Nat) (e : Engine) : Engine :=
  { e.rest .retryWait with timer := some (.retry now) }

/-- Loss of the drive (R96). -/
def Engine.lose (e : Engine) : Engine := { e.rest .lost with retryCount := 0, stopOwed := false }

/-! ## The move test (R77) -/

/-- The direction of a move from a position to a target. -/
def directionTo (target position : Nat) : Direction :=
  if position < target then .opening else .closing

/-- The channel is put in IDLE and the move test runs (R77). An engine without a position is not
bound, and no test finds it. -/
def Engine.moveTest (ctx : Ctx) (rec : ChannelRecord) (target : Nat) (e : Engine) : Engine :=
  match e.position with
  | none => e.rest .idle
  | some mm =>
    if atTarget rec target mm then e.rest .idle
    else if ctx.supplyOk then (e.move ctx rec (directionTo target (perMille rec mm)) mm)
    else e.hold

/-! ## Hand-overs (R79, R81, R92) -/

/-- A changed target in MOVING (R81). -/
def Engine.retarget (ctx : Ctx) (rec : ChannelRecord) (target : Nat) (e : Engine) : Engine :=
  match e.position with
  | none => e
  | some mm =>
    if atTarget rec target mm then e.enterDwell ctx.now
    else if e.direction = some (directionTo target (perMille rec mm)) then
      { e with reference := referenceAt ctx rec mm }
    else e.enterDwell ctx.now

/-- The retry limit latches a count (R88, R92): a limit of 0 never does. -/
def limitReached (rec : ChannelRecord) (count : Nat) : Bool :=
  decide (1 ≤ rec.retryLimit) && decide (rec.retryLimit ≤ count)

/-- A changed deciding layer (R92). -/
def Engine.exempt (now : Nat) (rec : ChannelRecord) (before : Option Layer) (after : Layer)
    (e : Engine) : Engine :=
  if after = .s then if e.state = .latched then e.wait now else e
  else if before = some .s ∧ e.state = .retryWait ∧ limitReached rec e.retryCount then
    e.rest .latched
  else e

/-- A hand-over (R79): the deciding layer's rules first, then the target's in the state they leave. -/
def Engine.handOver (ctx : Ctx) (rec : ChannelRecord) (before : Option Result) (after : Result)
    (e : Engine) : Engine :=
  let e1 :=
    if before.map (·.layer) = some after.layer then e
    else e.exempt ctx.now rec (before.map (·.layer)) after.layer
  if before.map (·.target) = some after.target then e1
  else
    match e1.state with
    | .idle => e1.moveTest ctx rec after.target
    | .moving => e1.retarget ctx rec after.target
    | _ => e1

/-! ## The command and the lamp (R74, R97) -/

/-- The command of the next poll (R74). -/
def Engine.command (rec : ChannelRecord) (target : Option Nat) (e : Engine) : DriveCommand :=
  match e.state with
  | .unbound | .dwell | .held | .lost => .stop
  | .idle => if e.stopOwed then .stop else .hold
  | .moving =>
    match target with
    | some t => .goto (setpoint rec t)
    | none => .stop
  | .retryWait | .latched =>
    if e.stopOwed then if 0 < rec.relieveMm then .relieve rec.relieveMm else .stop else .hold

/-- The channel is bound: in IDLE, MOVING, DWELL, RETRY_WAIT, LATCHED or HELD. -/
def EngineState.isBound : EngineState → Bool
  | .unbound | .lost => false
  | _ => true

/-- The derived lamp (R97). -/
def derivedLamp (state : EngineState) (layer : Option Layer) : Lamp :=
  if state = .latched then .blink
  else if layer = some .s ∨ layer = some .f then .on
  else .off

/-- The wanted lamp (R97). -/
def Engine.wantedLamp (layer : Option Layer) (e : Engine) : Lamp :=
  e.lampOverride.getD (derivedLamp e.state layer)

/-- The lamp field of the next poll (R97). -/
def Engine.lampField (layer : Option Layer) (e : Engine) : Option Lamp :=
  if e.state.isBound ∧ e.reportedLamp ≠ some (.lamp (e.wantedLamp layer)) then
    some (e.wantedLamp layer)
  else none

/-! ## The detectors (R83 to R87) -/

/-- An engine after a detector was evaluated, and whether the detector fired. -/
structure Evaluated where
  engine : Engine
  fired : Bool
deriving DecidableEq, Repr

/-- DRIVE_FLAG (R86, R87). -/
def evalDriveFlag (a : Answer) (e : Engine) : Evaluated :=
  if a.overtemperature || a.driveSupplyFault then ⟨e, e.armed.driveFlag⟩
  else ⟨{ e with armed := e.armed.set true .driveFlag }, false⟩

/-- OVERCURRENT (R84, R87). -/
def evalOvercurrent (now : Nat) (rec : ChannelRecord) (a : Answer) (e : Engine) : Evaluated :=
  if rec.stallMa ≤ a.current then
    if e.armed.overcurrent then
      match e.overcurrentRun with
      | none => ⟨{ e with overcurrentRun := some now }, false⟩
      | some t => ⟨e, decide (rec.deglitchMs ≤ now - t)⟩
    else ⟨e, false⟩
  else ⟨{ e with overcurrentRun := none, armed := e.armed.set true .overcurrent }, false⟩

/-- NO_LOAD (R84, R87). -/
def evalNoLoad (now : Nat) (rec : ChannelRecord) (a : Answer) (e : Engine) : Evaluated :=
  if a.current < rec.noloadMa then
    if e.armed.noLoad then
      match e.noLoadRun with
      | none => ⟨{ e with noLoadRun := some now }, false⟩
      | some t => ⟨e, decide (rec.deglitchMs ≤ now - t)⟩
    else ⟨e, false⟩
  else ⟨{ e with noLoadRun := none, armed := e.armed.set true .noLoad }, false⟩

/-- NO_PROGRESS (R85, R87). An absent reference on an evaluated answer is left open by R85
(assumption 6). -/
def evalNoProgress (now : Nat) (rec : ChannelRecord) (a : Answer) (e : Engine) : Evaluated :=
  match e.reference with
  | none =>
    if Config.adoptsReference a.position now then
      ⟨{ e with reference := some ⟨a.position, now⟩ }, false⟩
    else ⟨e, false⟩
  | some r =>
    if rec.progressMm ≤ apart a.position r.position then
      ⟨{ e with
          reference := some ⟨a.position, now⟩
          armed := e.armed.set true .noProgress }, false⟩
    else ⟨e, e.armed.noProgress && decide (rec.progressWindowMs ≤ now - r.time)⟩

/-- One detector's evaluation on an answer. -/
def evalDetector (now : Nat) (rec : ChannelRecord) (a : Answer) (d : Detector) (e : Engine) :
    Evaluated :=
  match d with
  | .driveFlag => evalDriveFlag a e
  | .overcurrent => evalOvercurrent now rec a e
  | .noProgress => evalNoProgress now rec a e
  | .noLoad => evalNoLoad now rec a e

/-- The detectors in order, up to the first enabled one that fires (R83). -/
def evalDetectors (now : Nat) (rec : ChannelRecord) (a : Answer) :
    List Detector → Engine → Engine × Option Detector
  | [], e => (e, none)
  | d :: rest, e =>
    if rec.detectors.get d then
      let r := evalDetector now rec a d e
      if r.fired then (r.engine, some d) else evalDetectors now rec a rest r.engine
    else evalDetectors now rec a rest e

/-- The detectors evaluated in a state, in order (R83). -/
def detectorsIn : EngineState → List Detector
  | .moving => [.driveFlag, .overcurrent, .noProgress, .noLoad]
  | .dwell => [.driveFlag, .overcurrent]
  | _ => []

/-! ## Fault actions (R87, R88, R91) -/

/-- The retry count after a counted fault; it saturates (R73). -/
def risen (count : Nat) : Nat := min 255 (count + 1)

/-- The fault of a detector. -/
def Engine.fault (now : Nat) (rec : ChannelRecord) (layer : Option Layer) (d : Detector) (e : Engine) :
    Engine :=
  let e1 := { e with lastFault := some d }
  match rec.faultAction with
  | .reportOnly => { e1 with armed := e1.armed.set false d }
  | .latch =>
    if layer = some .s then
      { e1.wait now with stopOwed := true, retryCount := risen e.retryCount }
    else { e1.rest .latched with stopOwed := true }
  | .retry =>
    if layer ≠ some .s ∧ limitReached rec (risen e.retryCount) then
      { e1.rest .latched with stopOwed := true, retryCount := risen e.retryCount }
    else { e1.wait now with stopOwed := true, retryCount := risen e.retryCount }

/-! ## Answers (R80, R82) -/

/-- An engine after an answer, and the notice the answer raises. -/
structure Judgement where
  engine : Engine
  notice : Option Notice
deriving DecidableEq, Repr

/-- The position and lamp of a valid answer are recorded (R73). -/
def Engine.record (a : Answer) (e : Engine) : Engine :=
  { e with position := some a.position, reportedLamp := some a.lamp }

/-- The detectors of the state, and the fault action of the one that fires. -/
def Engine.detect (now : Nat) (n : ChannelNo) (rec : ChannelRecord) (layer : Option Layer) (a : Answer)
    (e : Engine) : Judgement :=
  match evalDetectors now rec a (detectorsIn e.state) e with
  | (e1, some d) => ⟨e1.fault now rec layer d, some (.fault n d)⟩
  | (e1, none) => ⟨e1, none⟩

/-- The end switch of the direction is set (R80). -/
def endSwitch (a : Answer) : Option Direction → Bool
  | some .opening => a.openEnd
  | some .closing => a.closedEnd
  | none => false

/-- A valid answer of the bound drive, judged in the engine's state (R80, R82, R89, R90, R95). -/
def Engine.judge (now : Nat) (n : ChannelNo) (rec : ChannelRecord) (result : Option Result) (a : Answer)
    (e : Engine) : Judgement :=
  let e1 := e.record a
  match e.state, result with
  | .moving, some r =>
    if !a.running && atTarget rec r.target a.position then
      ⟨{ e1.rest .idle with retryCount := 0 },
        if rec.reportReached then some (.reached n r.target) else none⟩
    else if !a.running && endSwitch a e.direction then ⟨{ e1.rest .idle with retryCount := 0 }, none⟩
    else e1.detect now n rec (some r.layer) a
  | .dwell, r => e1.detect now n rec (r.map (·.layer)) a
  | _, _ => ⟨e1, none⟩

/-- The binding answer (R78), before the move test. -/
def Engine.bind (a : Answer) (e : Engine) : Engine :=
  { (e.record a).rest .idle with retryCount := 0, stopOwed := false }

/-! ## Supply holds (R94, R95) -/

/-- The supply leaves OK (R94). -/
def Engine.supplyOut (e : Engine) : Engine :=
  match e.state with
  | .moving | .dwell | .retryWait => e.hold
  | _ => e

/-! ## The engine at a commit (R99) -/

/-- R99 step 1: a timer that has reached its new length ends the dwell or the wait; the move test it
calls for is the one of step 4. -/
def Engine.commitTimer (now : Nat) (rec : ChannelRecord) (e : Engine) : Engine :=
  match e.state, e.timer with
  | .dwell, some (.dwell t) => if rec.reversalDwellMs ≤ now - t then e.rest .idle else e
  | .retryWait, some (.retry t) => if rec.retryMs ≤ now - t then e.rest .idle else e
  | _, _ => e

/-- R99 step 2: detectors removed lose run or reference; detectors added start with none, armed. -/
def Engine.commitDetectors (old new : DetectorMarks) (e : Engine) : Engine :=
  let arm := fun (d : Detector) => e.armed.get d || (new.get d && !old.get d)
  { e with
    overcurrentRun := if new.overcurrent && old.overcurrent then e.overcurrentRun else none
    noLoadRun := if new.noLoad && old.noLoad then e.noLoadRun else none
    reference := if new.noProgress && old.noProgress then e.reference else none
    armed := ⟨arm .overcurrent, arm .noProgress, arm .noLoad, arm .driveFlag⟩ }

/-- R99 step 3: a lowered limit latches. -/
def Engine.commitLimit (rec : ChannelRecord) (layer : Layer) (e : Engine) : Engine :=
  if e.state = .retryWait ∧ layer ≠ .s ∧ limitReached rec e.retryCount then e.rest .latched else e

/-- R99 step 4: the hand-over's layer rules, then one move test in IDLE, or R81 in MOVING where the
target, stroke or deadband changed. -/
def Engine.commitMove (ctx : Ctx) (old rec : ChannelRecord) (before : Option Result) (after : Result)
    (e : Engine) : Engine :=
  let e1 :=
    if before.map (·.layer) = some after.layer then e
    else e.exempt ctx.now rec (before.map (·.layer)) after.layer
  match e1.state with
  | .idle => e1.moveTest ctx rec after.target
  | .moving =>
    if before.map (·.target) = some after.target ∧ old.strokeMm = rec.strokeMm
        ∧ old.deadband = rec.deadband then e1
    else e1.retarget ctx rec after.target
  | _ => e1

/-- A bound engine carried across a commit (R99), before the supply's change. -/
def Engine.commit (ctx : Ctx) (old rec : ChannelRecord) (before : Option Result) (after : Result)
    (e : Engine) : Engine :=
  ((((e.commitTimer ctx.now rec).commitDetectors old.detectors rec.detectors).commitLimit rec
    after.layer).commitMove ctx old rec before after)

end Sys2Proof.Machine
end

