-- ==== Sys2Proof/Machine/Flags.lean ====
section
/-! DEFINITION. The Notice Unit's rules (chapter 10): the pending notice set, its order and mask, the
ATTENTION output, and the line error log, as functions of the unit's state and the node record. -/

namespace Sys2Proof.Machine

/-! ## The pending notice set (R161) -/

/-- The kind of a notice. -/
def Notice.kind : Notice → NoticeKind
  | .contact => .contact
  | .supply _ => .supply
  | .fault _ _ => .fault
  | .lineMajor _ => .lineMajor
  | .lost _ => .lost
  | .bound _ => .bound
  | .reached _ _ => .reached
  | .stranger _ => .stranger
  | .lineMinor _ => .lineMinor

/-- The channel of a notice, when its kind has one. -/
def Notice.channel : Notice → Option ChannelNo
  | .fault n _ => some n
  | .lost n => some n
  | .bound n => some n
  | .reached n _ => some n
  | _ => none

/-- The place of a notice's kind and channel in the order of R161's table: the set holds at most one
record of each place. -/
def Notice.place (x : Notice) : Nat := x.kind.bit * 16 + (x.channel.map (·.1)).getD 0

/-- The set after a notice is raised (R161): the record of the same kind and channel takes the new
detail, or the new record joins. -/
def raiseInto (x : Notice) : List Notice → List Notice
  | [] => [x]
  | y :: rest =>
    if x.place < y.place then x :: y :: rest
    else if x.place = y.place then x :: rest
    else y :: raiseInto x rest

/-! ## Order and mask (R162) -/

/-- The group of a notice kind (R161). -/
def NoticeKind.group : NoticeKind → NoticeGroup
  | .contact | .supply | .fault | .lineMajor => .safety
  | .lost | .bound | .reached => .motion
  | .stranger | .lineMinor => .line

/-- The order of the groups (R162). -/
def groupOrder : Nat → List NoticeGroup
  | 0 => [.safety, .motion, .line]
  | 1 => [.safety, .line, .motion]
  | 2 => [.motion, .safety, .line]
  | 3 => [.motion, .line, .safety]
  | 4 => [.line, .safety, .motion]
  | _ => [.line, .motion, .safety]

/-- The record is offerable (R162). -/
def offerable (node : NodeRecord) (x : Notice) : Bool := !node.noticeMask.getLsbD x.kind.bit

/-- The records in the order they are offered, masked ones left out (R162). -/
def offered (node : NodeRecord) (notices : List Notice) : List Notice :=
  (groupOrder node.noticeOrder).flatMap fun g =>
    notices.filter fun x => decide (x.kind.group = g) && offerable node x

/-- The first offerable record (R162). -/
def firstOfferable (node : NodeRecord) (notices : List Notice) : Option Notice :=
  (offered node notices).head?

/-- The unit with its ATTENTION output as the set and mask ask (R164). -/
def NoticeUnit.refresh (node : NodeRecord) (u : NoticeUnit) : NoticeUnit :=
  { u with attention := u.notices.any (offerable node) }

/-- A notice is raised (R161, R164). -/
def NoticeUnit.raise (node : NodeRecord) (x : Notice) (u : NoticeUnit) : NoticeUnit :=
  NoticeUnit.refresh node { u with notices := raiseInto x u.notices }

/-- A record is collected: it leaves the set (R163, R164). -/
def NoticeUnit.remove (node : NodeRecord) (x : Notice) (u : NoticeUnit) : NoticeUnit :=
  NoticeUnit.refresh node { u with notices := u.notices.filter fun y => decide (y ≠ x) }

/-! ## The line error log (R166, R167) -/

/-- The notice of an unmasked line error (R166). -/
def errorNotice (node : NodeRecord) (k : ErrorKind) : Notice :=
  if node.errorSeverity.getLsbD k.bit then .lineMajor k else .lineMinor k

/-- A line error is logged (R166, R167). -/
def NoticeUnit.log (node : NodeRecord) (k : ErrorKind) (port : ErrorPort) (captured : Captured)
    (u : NoticeUnit) : NoticeUnit :=
  let flagged := { u with flags := u.flags ||| BitVec.twoPow 8 k.bit }
  if node.errorMask.getLsbD k.bit then flagged
  else
    NoticeUnit.raise node (errorNotice node k)
      { flagged with firstError := u.firstError.or (some ⟨k, port, captured⟩) }

/-- An ERROR_CLEAR's effect on the log (R168). -/
def NoticeUnit.clearErrors (u : NoticeUnit) : NoticeUnit := { u with flags := 0, firstError := none }

end Sys2Proof.Machine
end

