-- ==== Sys2Proof/Machine/Ops.lean ====
section
/-! DEFINITION. The operations on the whole state that the commands share: block updates, notices and
line errors, writes of demand cells with the composition they cause, supply changes, panel
supervision, the effect of a node reset, and power-on. -/

namespace Sys2Proof.Machine

/-! ## Block updates -/

def State.setNow (t : Nat) (s : State) : State := { s with now := t }
def State.setFreeCount (k : Nat) (s : State) : State := { s with freeCount := k }
def State.setTrunk (t : Trunk) (s : State) : State := { s with trunk := t }
def State.setStore (t : Store) (s : State) : State := { s with store := t }
def State.setZone (t : ZoneUnit) (s : State) : State := { s with zone := t }
def State.setWeather (t : WeatherRuntime) (s : State) : State := { s with weather := t }
def State.setChannels (t : Table Channel 16) (s : State) : State := { s with channels := t }
def State.setBranch (t : Branch) (s : State) : State := { s with branch := t }
def State.setSupply (t : Supply) (s : State) : State := { s with supply := t }
def State.setNotice (t : NoticeUnit) (s : State) : State := { s with notice := t }
def State.setPending (q : List Instr) (s : State) : State := { s with pending := q }

/-- One millisecond of the time base passes (chapter 0, Time). -/
def State.tick (s : State) : State := s.setNow (s.now + 1)

/-! ## What the state says -/

/-- Repeater mode (R150). -/
def State.repeater (s : State) : Bool := s.trunk.address.isNone

/-- The active node record. -/
def State.node (s : State) : NodeRecord := s.store.active.node

/-- The active record of a channel. -/
def State.record (s : State) (n : ChannelNo) : ChannelRecord := s.store.active.channels.get n

/-- What an engine reads of the rest of the part. -/
def State.ctx (s : State) : Ctx :=
  ⟨s.store.active, s.weather, decide (s.supply.state = .ok), s.now⟩

/-! ## Notices and line errors -/

/-- A notice is raised (R161). -/
def State.raise (x : Notice) (s : State) : State := s.setNotice (s.notice.raise s.node x)

/-- The notice, if there is one, is raised. -/
def State.raiseOption (x : Option Notice) (s : State) : State :=
  match x with
  | some x => s.raise x
  | none => s

/-- A line error is logged (R166); in repeater mode none is (R150). -/
def State.logError (k : ErrorKind) (port : ErrorPort) (captured : Captured) (s : State) : State :=
  if s.repeater then s else s.setNotice (s.notice.log s.node k port captured)

/-- The port of a trunk line error. -/
def errorPortOf : TrunkPort → ErrorPort
  | .up => .up
  | .down => .down

/-- A trunk line error of a frame, with its header. -/
def State.logFrame (k : ErrorKind) (port : TrunkPort) (f : Frame) (s : State) : State :=
  s.logError k (errorPortOf port) (.header f.header)

/-! ## Demand cells and compositions (R1, R2, R18 to R20)

An event first places every cell it changes, in one or several blocks, and is then settled: each channel
whose inputs it changed is composed once, and handed over once against the result recorded before the
event (R18, R20). -/

/-- The composition of an in-use channel and its hand-over (R18, R20). -/
def Channel.recompose (ctx : Ctx) (rec : ChannelRecord) (c : Channel) : Channel :=
  let r := compose ctx.set ctx.weather rec c.stack
  { c with result := some r, engine := c.engine.handOver ctx rec c.result r }

/-- A producer's write of a cell (R1, R2): kept on an in-use channel only. -/
def Channel.place (rec : ChannelRecord) (l : Layer) (cell : Option Cell) (c : Channel) : Channel :=
  if rec.inUse then { c with stack := c.stack.set cell l } else c

/-- The one composition of an event (R18, R19): an in-use channel is composed where the event changed
its stack, which was `old`, or (`wind`) the speed, direction or station state. -/
def Channel.settle (ctx : Ctx) (rec : ChannelRecord) (wind : Bool) (old : Stack) (c : Channel) :
    Channel :=
  if rec.inUse ∧ (c.stack ≠ old ∨ wind = true) then c.recompose ctx rec else c

/-- An event whose one change to the channel's inputs is a cell. -/
def Channel.write (ctx : Ctx) (rec : ChannelRecord) (l : Layer) (cell : Option Cell) (c : Channel) :
    Channel :=
  (c.place rec l cell).settle ctx rec false c.stack

/-- Every channel changed by a function of its record. -/
def State.mapChannels (f : ChannelNo → ChannelRecord → Channel → Channel) (s : State) : State :=
  s.setChannels (s.channels.mapIdx fun n c => f n (s.record n) c)

/-- One channel changed by a function of its record. -/
def State.mapChannel (n : ChannelNo) (f : ChannelRecord → Channel → Channel) (s : State) : State :=
  s.setChannels (s.channels.modify n (f (s.record n)))

/-- The readings or the station state differ (R19). -/
def WeatherRuntime.windChanged (old w : WeatherRuntime) : Bool :=
  decide (w.speed ≠ old.speed) || decide (w.direction ≠ old.direction) || decide (w.lost ≠ old.lost)

/-- The end of an event that began in `old`: each in-use channel whose inputs it changed is composed and
handed over once (R18, R20). A channel that the event has composed already is left as it is, since its
result is then the composition of its inputs. -/
def State.settle (s old : State) : State :=
  s.mapChannels fun n rec c =>
    c.settle s.ctx rec (old.weather.windChanged s.weather) (old.channels.get n).stack

/-- An engine changed by a function of its record and target (an engine without a target is not
bound). -/
def Channel.onEngine (f : Engine → Engine) (c : Channel) : Channel := { c with engine := f c.engine }

/-- The move test of a channel (R77). A channel without a target is UNBOUND (R20). -/
def Channel.moveTest (ctx : Ctx) (rec : ChannelRecord) (c : Channel) : Channel :=
  match c.result with
  | some r => c.onEngine (Engine.moveTest ctx rec r.target)
  | none => c.onEngine fun e => e.rest .idle

/-! ## Zones and the contact (chapter 2) -/

/-- The runtime record of a zone replaced. -/
def State.setZoneRuntime (z : ZoneNo) (r : ZoneRuntime) (s : State) : State :=
  s.setZone { s.zone with zones := s.zone.zones.set z r }

/-- The S cells of the in-use channels whose zones contain `z` are recomputed (R31). -/
def State.recomputeSmoke (z : ZoneNo) (s : State) : State :=
  s.mapChannels fun _ rec c =>
    if rec.zones.getLsbD z.1 then c.place rec .s (smokeCell s.store.active s.zone.zones rec) else c

/-- The effective contact (R34). -/
def effectiveContact (source : ContactSource) (accepted : Level) : Level :=
  match source with
  | .pin => accepted
  | .forcedOn => .active
  | .forcedOff => .inactive

/-- The other level. -/
def otherLevel : Level → Level
  | .active => .inactive
  | .inactive => .active

/-- The effective contact of the state. -/
def State.effective (s : State) : Level :=
  effectiveContact s.node.contactSource s.zone.contact.accepted

/-- A pending change has been held for the deglitch time (R32). -/
def Contact.due (now deglitch : Nat) (c : Contact) : Bool :=
  c.pendingSince.any fun t => decide (deglitch ≤ now - t)

/-- A contact alarm's effect on the zone's record (R35): ALARM, episode positions absent, the flag as
it stands. -/
def ZoneRuntime.contactAlarm (r : ZoneRuntime) : ZoneRuntime :=
  { r with alarm := true, episode := none }

/-- A contact alarm with its CONTACT notice (R35). -/
def State.contactAlarm (s : State) : State :=
  let z := s.node.contactZone
  ((s.setZoneRuntime z (s.zone.zones.get z).contactAlarm).recomputeSmoke z).raise .contact

/-! ## Panel supervision (R38 to R41) -/

/-- The F cells are placed as the supervision state asks (R41). -/
def State.placeFallback (s : State) : State :=
  s.mapChannels fun _ rec c => c.place rec .f (fallbackCell s.zone.supervision.lost rec)

/-- A received frame is shown to panel supervision (R38, R40); the event goes on. -/
def State.hear (src : Nat) (s : State) : State :=
  if src = s.node.panelAddress then
    if s.zone.supervision.lost then
      (s.setZone { s.zone with supervision := ⟨false, some s.now⟩ }).placeFallback
    else if 1 ≤ s.store.generation then
      s.setZone { s.zone with supervision := ⟨false, some s.now⟩ }
    else s
  else s

/-- A received frame is shown to panel supervision (R38, R40), and no other block changes a demand cell
in its event. -/
def State.supervise (src : Nat) (s : State) : State := (s.hear src).settle s

/-! ## Weather (chapter 3) -/

/-- The elapsed time of a hold timer; a stopped one has none. -/
def HoldTimer.elapsed (now : Nat) : HoldTimer → Nat
  | .stopped => 0
  | .running since before => before + (now - since)
  | .frozen e => e

/-- The timer is running and its elapsed time has reached the duration (R47). -/
def HoldTimer.due (now duration : Nat) : HoldTimer → Bool
  | .running since before => decide (duration ≤ before + (now - since))
  | _ => false

/-- A running timer is frozen (R55). -/
def HoldTimer.freeze (now : Nat) : HoldTimer → HoldTimer
  | .running since before => .frozen (before + (now - since))
  | t => t

/-- A frozen timer resumes (R49, R59). -/
def HoldTimer.resume (now : Nat) : HoldTimer → HoldTimer
  | .frozen e => .running now e
  | t => t

/-- A frozen timer that has reached the duration (R49, R55, R59). -/
def HoldTimer.frozenDue (duration : Nat) : HoldTimer → Bool
  | .frozen e => decide (duration ≤ e)
  | _ => false

/-- The rain hold expires (R52). -/
def WeatherRuntime.endRain (w : WeatherRuntime) : WeatherRuntime :=
  { w with wet := false, rainHold := .stopped }

/-- The storm hold expires (R52). -/
def WeatherRuntime.endStorm (w : WeatherRuntime) : WeatherRuntime :=
  { w with storm := false, stormHold := .stopped }

/-- Both holds frozen (R55, R59). -/
def WeatherRuntime.freeze (now : Nat) (w : WeatherRuntime) : WeatherRuntime :=
  { w with rainHold := w.rainHold.freeze now, stormHold := w.stormHold.freeze now }

/-- Both holds resume; one that has reached its duration expires at once (R49, R55, R59). -/
def WeatherRuntime.resume (now : Nat) (r : WeatherRecord) (w : WeatherRuntime) : WeatherRuntime :=
  let w1 :=
    if w.rainHold.frozenDue r.rainHoldMs then w.endRain
    else { w with rainHold := w.rainHold.resume now }
  if w.stormHold.frozenDue r.stormHoldMs then w1.endStorm
  else { w1 with stormHold := w.stormHold.resume now }

/-- The station timer expires (R53, R55). -/
def WeatherRuntime.lose (now : Nat) (policy : TimeoutPolicy) (w : WeatherRuntime) : WeatherRuntime :=
  let w1 := { w with lost := true, stationTimer := none }
  match policy with
  | .holdLast => w1.freeze now
  | .assumeStormRain => w1

/-- The runtime record replaced, with the W cells that asks for (R57, R58). -/
def State.changeWeather (w : WeatherRuntime) (s : State) : State :=
  (s.setWeather w).mapChannels fun _ rec c =>
    c.place rec .w (weatherCell s.store.active.weather.policy w rec)

/-! ## The supply (chapter 7) -/

/-- HELD channels enter IDLE and the move test runs (R95). -/
def Channel.supplyBack (ctx : Ctx) (rec : ChannelRecord) (c : Channel) : Channel :=
  if c.engine.state = .held then c.moveTest ctx rec else c

/-- The supply state changes (R133): the SUPPLY notice, and R94 or R95 on the engines. `supply` is the
record after the change. -/
def State.changeSupply (supply : Supply) (s : State) : State :=
  let s1 := (s.setSupply supply).raise (.supply supply.state)
  if s.supply.state = .ok ∧ supply.state ≠ .ok then
    s1.mapChannels fun _ _ c => c.onEngine Engine.supplyOut
  else if s.supply.state ≠ .ok ∧ supply.state = .ok then
    s1.mapChannels fun _ rec c => c.supplyBack s1.ctx rec
  else s1

/-! ## The trunk ports (R149, R155, R156, R158) -/

def Trunk.port (t : Trunk) : TrunkPort → Port
  | .up => t.up
  | .down => t.down

def Trunk.setPort (t : Trunk) (p : Port) : TrunkPort → Trunk
  | .up => { t with up := p }
  | .down => { t with down := p }

/-- The opposite port. -/
def otherPort : TrunkPort → TrunkPort
  | .up => .down
  | .down => .up

def State.port (s : State) (p : TrunkPort) : Port := s.trunk.port p

def State.setPort (p : TrunkPort) (x : Port) (s : State) : State := s.setTrunk (s.trunk.setPort x p)

/-- The class of a forward queue. -/
inductive QueueClass where
  | urgent | normal
deriving DecidableEq, Repr

/-- What became of an entry put to a port. -/
inductive Queued where
  | taken | full | linkDown
deriving DecidableEq, Repr

/-- The transmitter is free and both queues are empty: an entry put now starts at once (R158). -/
def Port.startsAtOnce (p : Port) : Bool :=
  p.flight.isNone && !p.gap && p.urgent.isEmpty && p.normal.isEmpty

/-- An entry is put to a port (R149, R155, R156, R158). -/
def Port.put (class' : QueueClass) (x : Entry) (p : Port) : Port × Queued :=
  if p.link = false then (p, .linkDown)
  else if p.startsAtOnce then ({ p with flight := some x }, .taken)
  else
    match class' with
    | .urgent =>
      if Config.urgentCapacity ≤ p.urgent.length then (p, .full)
      else ({ p with urgent := p.urgent ++ [x] }, .taken)
    | .normal =>
      if Config.normalCapacity ≤ p.normal.length then (p, .full)
      else ({ p with normal := p.normal ++ [x] }, .taken)

/-- The class the active class map gives a kind code; an unknown kind goes to NORMAL (R156). -/
def queueClass (map : BitVec 17) (kind : Byte) : QueueClass :=
  match kindOf kind with
  | some k => if map.getLsbD k.mapBit then .urgent else .normal
  | none => .normal

/-- The port with its queues emptied (R149, R159). -/
def Port.emptied (p : Port) : Port := { p with urgent := [], normal := [] }

/-- The port at a node reset (R159): queues emptied, and the frame in flight cut (its idle gap
follows) unless the link is DOWN, where it completes. -/
def Port.nodeReset (p : Port) : Port :=
  match p.flight with
  | none => p.emptied
  | some x =>
    if p.link then { p.emptied with flight := none, gap := true }
    else { p.emptied with flight := some { x with reset := false } }

/-! ## Node reset (R22, R43, R60, R68, R72, R101, R125, R135, R146, R159, R169) -/

/-- The stack of an in-use channel as a node reset leaves it. -/
def resetStack (s : State) (rec : ChannelRecord) (st : Stack) : Stack :=
  { st with
    s := smokeCell s.store.active s.zone.zones rec
    f := none
    w := weatherCell s.store.active.weather.policy s.weather rec
    m := none
    c := none }

/-- A channel as a node reset leaves it (R22, R101, R125): composed once if in use, UNBOUND. -/
def resetChannel (s : State) (rec : ChannelRecord) (c : Channel) : Channel :=
  let st := if rec.inUse then resetStack s rec c.stack else c.stack
  { stack := st
    result := if rec.inUse then some (compose s.store.active s.weather rec st) else c.result
    engine := Engine.powerOn
    binding := Binding.none }

/-- A node reset takes effect. The running table, which slot 0 takes afresh after the start period (R123),
is left as it was until then: DESIGN CHOICE (assumption 30). -/
def State.nodeReset (s : State) : State where
  now := s.now
  freeCount := s.freeCount
  trunk :=
    { s.trunk with
      up := s.trunk.up.nodeReset
      down := s.trunk.down.nodeReset
      pendingReset := false
      period := s.trunk.period + 1 }
  store := { s.store with staged := none }
  zone :=
    { s.zone with
      supervision := ⟨false, if 1 ≤ s.store.generation then some s.now else none⟩ }
  weather := s.weather
  channels := s.channels.mapIdx fun n c => resetChannel s (s.record n) c
  branch :=
    { s.branch with
      schedule := .starting s.now
      exchange := none
      sent := some allStop
      pointer := 1
      strangers := []
      overflow := false
      farewell := [] }
  supply :=
    { s.supply with state := .ok, latched := false, below := 0, above := 0, inWindow := 0 }
  notice := NoticeUnit.powerOn
  pending := s.pending

/-! ## Power-on (R150, R23, R44, R61, R73, R101, R125, R126, R135, R146, R169) -/

/-- Every block at its power-on state, with the straps and the CONTACT input as sampled. The time base
runs on, and the queue of commands is not the part's. -/
def State.powerOn (straps : Nat) (rate : LineRate) (contact : Level) (s : State) : State where
  now := s.now
  freeCount := s.freeCount
  trunk := Trunk.powerOn straps rate (s.trunk.period + 1)
  store := ⟨defaultSet, none, 0⟩
  zone := ZoneUnit.powerOn contact s.now
  weather := WeatherRuntime.powerOn
  channels := Table.fill Channel.powerOn
  branch := Branch.powerOn (strapAddress straps).isNone s.now
  supply := Supply.powerOn (strapAddress straps).isNone s.now
  notice := NoticeUnit.powerOn
  pending := s.pending

end Sys2Proof.Machine
end

