-- ==== Sys2Proof/Machine/Trunk.lean ====
section
/-! DEFINITION. The Trunk Forwarder and the Local Dispatcher (sections 9.2 to 9.4): the loop check,
routing, forwarding, and replies, shared by every command that is a trunk frame. -/

namespace Sys2Proof.Machine

/-! ## Forwarding (R156) -/

/-- The state after a frame is put towards the port opposite to its arrival, and the line error that
refuses it. -/
def State.forward (p : TrunkPort) (f : Frame) (s : State) : State × Option ErrorKind :=
  if f.hop = 0 then (s, some .hopExpired)
  else
    let out := otherPort p
    match (s.port out).put (queueClass s.node.classMap f.kind) ⟨{ f with hop := f.hop - 1 }, false⟩ with
    | (x, .taken) => (s.setPort out x, none)
    | (_, .full) => (s, some .queueFull)
    | (_, .linkDown) => (s, none)

/-- The line error, if there is one, is logged with the frame's header and arrival port. -/
def State.logOption (k : Option ErrorKind) (p : TrunkPort) (f : Frame) (s : State) : State :=
  match k with
  | some k => s.logFrame k p f
  | none => s

/-- A frame that is forwarded only (R152). -/
def State.forwardOnly (p : TrunkPort) (f : Frame) (s : State) : State :=
  (s.forward p f).1.logOption (s.forward p f).2 p f

/-! ## Owners and replies (R153, R155, R159) -/

/-- What an owner makes of a frame: the state it leaves, the line error it reports, the status and
body of its reply, and whether the frame asks for a node reset. -/
structure Acted where
  state : State
  error : Option ErrorKind
  status : Status
  body : List Byte
  reset : Bool

/-- An owner of a frame kind. `demand` is set where it changes demand cells or the set: its changes then
join those of panel supervision in the event's one composition (R18). -/
structure Owner where
  demand : Bool
  act : State → Acted

/-- The owner acts on a frame, which panel supervision has seen first (R38), in one event. An owner that
writes no demand cell finds the channels as supervision leaves them, composed; one that does finds them
not yet composed, and the event is settled after it. -/
def Owner.run (o : Owner) (src : Nat) (s : State) : Acted :=
  if o.demand then
    let r := o.act (s.hear src)
    { r with state := r.state.settle s }
  else o.act (s.supervise src)

/-- The owner acted and its reply is ACCEPTED with a body. -/
def Acted.ok (body : List Byte) (s : State) : Acted := ⟨s, none, .accepted, body, false⟩

/-- The owner refused the request; nothing else happens. -/
def Acted.refuse (status : Status) (body : List Byte) (s : State) : Acted :=
  ⟨s, none, status, body, false⟩

/-- The owner did not act on a frame with a field out of range (R26, R63). -/
def Acted.fieldRange (s : State) : Acted := ⟨s, some .fieldRange, .badValue, [], false⟩

/-- The REPLY frame to a request (R155). -/
def replyFrame (address : Nat) (f : Frame) (status : Status) (body : List Byte) : Frame where
  kind := FrameKind.reply.code
  dst := f.src
  src := address
  hop := 31
  seq := f.seq
  payload := f.kind :: byte status.code :: body

/-- A reply is originated (R155). The first reply to a NODE_RESET carries the pending reset; discarded,
it brings the reset about at once (R159). -/
def State.reply (p : TrunkPort) (f : Frame) (address : Nat) (status : Status) (body : List Byte)
    (reset : Bool) (s : State) : State :=
  let carries := reset && !s.trunk.pendingReset
  match (s.port p).put .normal ⟨replyFrame address f status body, carries⟩ with
  | (x, .taken) =>
    let s1 := s.setPort p x
    if carries then s1.setTrunk { s1.trunk with pendingReset := true } else s1
  | (_, .full) =>
    let s1 := s.logFrame .queueFull p f
    if carries then s1.nodeReset else s1
  | (_, .linkDown) => if carries then s.nodeReset else s

/-- A frame addressed to the node (R152, R153): the owner acts, its line error is logged, and the
reply goes out. -/
def State.consume (p : TrunkPort) (f : Frame) (address : Nat) (owner : State → Acted) (s : State) :
    State :=
  let r := owner s
  (r.state.logOption r.error p f).reply p f address r.status r.body r.reset

/-- A broadcast frame (R152): the owner acts and the frame is forwarded. The order in which two line
errors of the one event are logged is open (assumption 5). -/
def State.actAndForward (p : TrunkPort) (f : Frame) (owner : State → Acted) (s : State) : State :=
  let r := owner s
  let t := r.state.forward p f
  match r.error, t.2 with
  | some a, some b =>
    let s1 := t.1.setFreeCount (t.1.freeCount + 1)
    if Config.forwardErrorFirst t.1.freeCount then (s1.logFrame b p f).logFrame a p f
    else (s1.logFrame a p f).logFrame b p f
  | some a, none => t.1.logFrame a p f
  | none, e => t.1.logOption e p f

/-! ## Receiving (R151 check 3, R152, R153) -/

/-- The frame's kind is a broadcast kind. -/
def Frame.isBroadcast (f : Frame) : Bool := (kindOf f.kind).any FrameKind.isBroadcast

/-- A frame that has passed the frame and form checks: the loop check, panel supervision, then routing
(R151, R152). `owner` is what acts on the frame, absent for a REPLY, which is consumed and ignored. In
repeater mode the frame is forwarded only and nothing is logged (R150). The owner, QUERY's among them,
finds panel supervision as this frame leaves it: R165's 'as the request's event finds it' does not say
on which side of R38's first sight of the frame it reads: DESIGN CHOICE (assumption 31). -/
def State.receive (p : TrunkPort) (f : Frame) (owner : Option Owner) (s : State) : State :=
  match s.trunk.address with
  | none => s.forwardOnly p f
  | some a =>
    if f.src = a then s.logFrame .loop p f
    else
      if f.dst = a then
        match owner with
        | some o => s.consume p f a (o.run f.src)
        | none => s.supervise f.src
      else if f.dst = 0 ∧ f.isBroadcast then
        match owner with
        | some o => s.actAndForward p f (o.run f.src)
        | none => (s.supervise f.src).forwardOnly p f
      else (s.supervise f.src).forwardOnly p f

/-! ## Reply bodies (section 9.6) -/

/-- The staging state, tally and generation (R138, R140, R143). -/
def State.stagingBody (s : State) : List Byte :=
  match s.store.staged with
  | none => byte 0 :: be16 0 ++ be32 s.store.generation
  | some x => byte 1 :: be16 x.tally ++ be32 s.store.generation

/-- The generation (R144, R145). -/
def State.generationBody (s : State) : List Byte := be32 s.store.generation

/-- The supply state and last sample (R132). -/
def State.supplyBody (s : State) : List Byte :=
  byte s.supply.state.code :: be16 (s.supply.last.getD 0xFFFF)

/-- The body of the reply to a request whose payload length is not allowed (R153, section 9.6), and the
counter of free values after it; COLLECT's body is open (assumption 4). -/
def State.lengthBody (kind : FrameKind) (s : State) : List Byte × Nat :=
  match kind with
  | .setWrite | .setCommit | .setDiscard => (s.stagingBody, s.freeCount)
  | .read => (s.generationBody, s.freeCount)
  | .supplyClear => (s.supplyBody, s.freeCount)
  | .collect => ((Config.refusedCollectBody s.freeCount).take 46, s.freeCount + 1)
  | _ => ([], s.freeCount)

/-- A frame whose payload length is not allowed for its kind is not acted on (R153). -/
def actBadLength (kind : FrameKind) (s : State) : Acted :=
  ⟨s.setFreeCount (s.lengthBody kind).2, some .malformed, .badValue, (s.lengthBody kind).1, false⟩

end Sys2Proof.Machine
end

