-- ==== Sys2Proof/Machine/Validate.lean ====
section
/-! DEFINITION. The validation checks V1 to V7 (R141), made on a set as a whole. -/

namespace Sys2Proof.Machine

/-- The item a failing check names (R141). -/
inductive Item where
  | none
  | layer (l : Layer)
  | channel (n : ChannelNo)
  | slot (k : Fin 24)
deriving DecidableEq, Repr

/-- A failing check and the item it names. -/
structure Failure where
  check : Nat
  item : Item
deriving DecidableEq, Repr

/-- The layers in table order. -/
def layersInOrder : List Layer := [.s, .f, .w, .m, .c, .b]

/-- The channel numbers in order. -/
def channelNos : List ChannelNo := List.finRange 16

/-- The slot indices in order. -/
def slotNos : List (Fin 24) := List.finRange 24

/-- Some layer before this one in table order has its priority. -/
def repeatsPriority (t : LayerTable) (l : Layer) : Bool :=
  layersInOrder.any fun x => decide (x.index < l.index) && decide ((t.get x).priority = (t.get l).priority)

/-- V1: B's priority is 0 and the priorities are pairwise distinct. -/
def failsV1 (t : LayerTable) : Option Failure :=
  if t.b.priority ≠ 0 then some ⟨1, .layer .b⟩
  else (layersInOrder.find? (repeatsPriority t)).map fun l => ⟨1, .layer l⟩

/-- A mode source the layer may have (V2). -/
def sourceAllowed (l : Layer) : ModeSource → Bool
  | .layer => true
  | .cell => decide (l = .c)
  | .channel => decide (l = .s)

/-- V2: CELL on C alone, CHANNEL on S alone. -/
def failsV2 (t : LayerTable) : Option Failure :=
  (layersInOrder.find? fun l => !sourceAllowed l (t.get l).source).map fun l => ⟨2, .layer l⟩

/-- Two channel records name one station, or one present serial (V3). -/
def clashes (a b : ChannelRecord) : Bool :=
  decide (a.station = b.station) || (a.serial.isSome && decide (a.serial = b.serial))

/-- V3: no two in-use channels share a station or a present serial. -/
def failsV3 (set : ConfigSet) : Option Failure :=
  (channelNos.find? fun n =>
    (set.channels.get n).inUse
      && channelNos.any fun m =>
        decide (m < n) && (set.channels.get m).inUse
          && clashes (set.channels.get m) (set.channels.get n)).map fun n => ⟨3, .channel n⟩

/-- V4: travel_min at most travel_max and noload_mA below stall_mA on every in-use channel. -/
def failsV4 (set : ConfigSet) : Option Failure :=
  (channelNos.find? fun n =>
    let r := set.channels.get n
    r.inUse && (decide (r.travelMax < r.travelMin) || decide (r.stallMa ≤ r.noloadMa))).map
      fun n => ⟨4, .channel n⟩

/-- The slot names a channel that is not in use (V5). -/
def namesUnused (set : ConfigSet) (k : Fin 24) : Bool :=
  match set.cycle.get k with
  | .channel n => !(set.channels.get n).inUse
  | _ => false

/-- Some slot names the channel (V5). -/
def namedInCycle (set : ConfigSet) (n : ChannelNo) : Bool :=
  slotNos.any fun k => decide (set.cycle.get k = .channel n)

/-- V5: no slot names a channel not in use, every in-use channel is named, some slot is DISCOVER. -/
def failsV5 (set : ConfigSet) : Option Failure :=
  match slotNos.find? (namesUnused set) with
  | some k => some ⟨5, .slot k⟩
  | none =>
    match channelNos.find? fun n => (set.channels.get n).inUse && !namedInCycle set n with
    | some n => some ⟨5, .channel n⟩
    | none =>
      if slotNos.any fun k => decide (set.cycle.get k = .discover) then none else some ⟨5, .none⟩

/-- V6: storm_off at most storm_on. -/
def failsV6 (set : ConfigSet) : Option Failure :=
  if set.weather.stormOff ≤ set.weather.stormOn then none else some ⟨6, .none⟩

/-- V7: supply_min below supply_max. -/
def failsV7 (set : ConfigSet) : Option Failure :=
  if set.node.supplyMin < set.node.supplyMax then none else some ⟨7, .none⟩

/-- The first check that fails (R141); a set is valid when none does. -/
def failure (set : ConfigSet) : Option Failure :=
  (failsV1 set.layers).or <| (failsV2 set.layers).or <| (failsV3 set).or <| (failsV4 set).or <|
    (failsV5 set).or <| (failsV6 set).or (failsV7 set)

/-- The item's code and number in the reply to a SET_COMMIT (section 9.6). -/
def Item.bytes : Item → List Byte
  | .none => [byte 0, byte 0]
  | .layer l => [byte 1, byte l.index]
  | .channel n => [byte 2, byte n.1]
  | .slot k => [byte 3, byte k.1]

end Sys2Proof.Machine
end

