-- ==== Sys2Proof/Machine/Commit.lean ====
section
/-! DEFINITION. The effect of an accepted commit (R142): every block takes up the new set in one event
(R21, R42, R59, R67, R72, R99, R100, R124, R134, R169). -/

namespace Sys2Proof.Machine

/-- The binding fields of a channel change (R99, R100). -/
def bindingChanged (old new : ChannelRecord) : Bool :=
  decide (old.inUse ≠ new.inUse) || decide (old.station ≠ new.station)
    || decide (old.serial ≠ new.serial)

/-! ## Zone Unit (R33, R36, R42) -/

/-- The contact deglitch under a changed deglitch time (R33). -/
def Contact.commit (now old new : Nat) (c : Contact) : Contact :=
  if old ≠ new ∧ c.due now new then ⟨otherLevel c.accepted, none⟩ else c

/-- The effective contact after the commit. -/
def State.effectiveAfter (new : ConfigSet) (s : State) : Level :=
  effectiveContact new.node.contactSource
    (s.zone.contact.commit s.now s.node.contactDeglitchMs new.node.contactDeglitchMs).accepted

/-- The commit makes the effective contact ACTIVE (R36): a contact alarm with its notice. -/
def State.contactRises (new : ConfigSet) (s : State) : Bool :=
  decide (s.effective = .inactive) && decide (s.effectiveAfter new = .active)

/-- The commit moves contact_zone under an ACTIVE contact (R36): a contact alarm without notice. -/
def State.contactMoves (new : ConfigSet) (s : State) : Bool :=
  decide (s.effective = .active) && decide (s.effectiveAfter new = .active)
    && decide (s.node.contactZone ≠ new.node.contactZone)

/-- The Zone Unit after a commit (R42 steps 1 and 4). -/
def State.commitZone (new : ConfigSet) (s : State) : ZoneUnit where
  zones :=
    if s.contactRises new || s.contactMoves new then
      s.zone.zones.modify new.node.contactZone ZoneRuntime.contactAlarm
    else s.zone.zones
  contact := s.zone.contact.commit s.now s.node.contactDeglitchMs new.node.contactDeglitchMs
  supervision := if s.zone.supervision.lost then s.zone.supervision else ⟨false, some s.now⟩

/-! ## Weather Unit (R59) -/

/-- R59 step 1: hold expiries before the station expiry. -/
def WeatherRuntime.commitDurations (now : Nat) (new : WeatherRecord) (w : WeatherRuntime) :
    WeatherRuntime :=
  let w1 := if w.rainHold.due now new.rainHoldMs then w.endRain else w
  let w2 := if w1.stormHold.due now new.stormHoldMs then w1.endStorm else w1
  if w2.stationTimer.any fun t => decide (new.stationTimeoutMs ≤ now - t) then
    w2.lose now new.policy
  else w2

/-- R59 step 2: a changed policy while the station is LOST. -/
def WeatherRuntime.commitPolicy (now : Nat) (old new : WeatherRecord) (w : WeatherRuntime) :
    WeatherRuntime :=
  if w.lost = true ∧ old.policy ≠ new.policy then
    match new.policy with
    | .holdLast => w.freeze now
    | .assumeStormRain => w.resume now new
  else w

/-- The weather runtime record after a commit (R59). -/
def WeatherRuntime.commit (now : Nat) (old new : WeatherRecord) (w : WeatherRuntime) :
    WeatherRuntime :=
  (w.commitDurations now new).commitPolicy now old new

/-! ## Channels (R21, R67, R72, R99, R100, R124) -/

/-- The stack of a channel in use after a commit. -/
def commitStack (new : ConfigSet) (zone : ZoneUnit) (w : WeatherRuntime) (n : ChannelNo)
    (old rec : ChannelRecord) (st : Stack) : Stack where
  s := smokeCell new zone.zones rec
  f := fallbackCell zone.supervision.lost rec
  w := weatherCell new.weather.policy w rec
  m := if bindingChanged old rec then none else st.m
  c := if old.inUse then keptComfort new.groups n st.c else none
  b := some (baseCell rec)

/-- The engine of a channel in use after a commit (R99, R100); UNBOUND and LOST stay as they are where
the binding fields are unchanged. -/
def commitEngine (ctx : Ctx) (old rec : ChannelRecord) (before : Option Result) (after : Result)
    (e : Engine) : Engine :=
  if bindingChanged old rec then Engine.powerOn
  else if e.state.isBound then e.commit ctx old rec before after
  else e

/-- A channel after a commit. -/
def commitChannel (ctx : Ctx) (zone : ZoneUnit) (n : ChannelNo) (old rec : ChannelRecord)
    (c : Channel) : Channel :=
  let binding := if bindingChanged old rec then Binding.none else c.binding
  if rec.inUse then
    let st := commitStack ctx.set zone ctx.weather n old rec c.stack
    let r := compose ctx.set ctx.weather rec st
    { stack := st, result := some r, engine := commitEngine ctx old rec c.result r c.engine, binding }
  else
    { stack := Stack.empty
      result := none
      engine := if bindingChanged old rec then Engine.powerOn else c.engine
      binding }

/-! ## Branch Master (R106, R110, R121, R122, R124) -/

/-- A station is claimed by an in-use channel of the set (R117). -/
def claimed (set : ConfigSet) (station : Nat) : Bool :=
  channelNos.any fun n =>
    (set.channels.get n).inUse && decide ((set.channels.get n).station = station)

/-- A serial is acceptable to a channel (R114). -/
def acceptable (rec : ChannelRecord) (x : Serial) : Bool := rec.serial.all fun y => decide (y = x)

/-- An in-use channel of the set names the station and finds the serial acceptable (R118, R121). -/
def accepted (set : ConfigSet) (station : Nat) (x : Serial) : Bool :=
  channelNos.any fun n =>
    (set.channels.get n).inUse && decide ((set.channels.get n).station = station)
      && acceptable (set.channels.get n) x

/-- The old stations of the BOUND channels that the commit makes UNBOUND, in channel order (R124). -/
def unboundStations (old new : ConfigSet) (channels : Table Channel 16) : List Nat :=
  (channelNos.filter fun n =>
    decide ((channels.get n).binding.status = .bound)
      && bindingChanged (old.channels.get n) (new.channels.get n)).map
    fun n => (old.channels.get n).station

/-- A station is appended to the farewell list (R122). -/
def appendFarewell (list : List Nat) (station : Nat) : List Nat :=
  if list.contains station ∨ Config.farewellCapacity ≤ list.length then list else list ++ [station]

/-- The exchange in progress after a commit: no longer counted where its channel's binding fields
change (R110). -/
def commitExchange (old new : ConfigSet) (x : Exchange) : Exchange :=
  match x.kind with
  | .channel n counted =>
    { x with
      kind := .channel n (counted && !bindingChanged (old.channels.get n) (new.channels.get n)) }
  | _ => x

/-- The Branch Master's own state after a commit (R124 steps 2 to 4). -/
def State.commitBranch (new : ConfigSet) (s : State) : Branch :=
  { s.branch with
    exchange := s.branch.exchange.map (commitExchange s.store.active new)
    strangers := s.branch.strangers.filter fun x => !accepted new x.station x.serial
    farewell :=
      ((unboundStations s.store.active new s.channels).foldl appendFarewell s.branch.farewell).filter
        fun st => !claimed new st }

/-! ## Supply Monitor (R134) -/

/-- R134 steps 1 and 2. -/
def Supply.commit (old new : NodeRecord) (u : Supply) : Supply :=
  let u1 :=
    if old.supplyMin ≠ new.supplyMin ∨ old.supplyMax ≠ new.supplyMax then
      { u with below := 0, above := 0, inWindow := 0 }
    else u
  if new.supplyMinMode = .auto ∧ new.supplyMaxMode = .auto then { u1 with latched := false } else u1

/-- The record back in OK (R130, R132, R134). -/
def Supply.back (u : Supply) : Supply :=
  { u with state := .ok, latched := false, below := 0, above := 0, inWindow := 0 }

/-- R134 step 3: an excursion that has qualified returns to OK. -/
def State.commitSupply (s : State) : State :=
  if s.supply.state ≠ .ok ∧ s.supply.latched = false ∧ s.supply.inWindow = 10 then
    s.changeSupply s.supply.back
  else s

/-! ## The commit (R142) -/

/-- The Notice Unit after a commit, under the new node record (R36, R169). -/
def State.commitNotice (new : ConfigSet) (s : State) : NoticeUnit :=
  if s.contactRises new then s.notice.raise new.node .contact else s.notice.refresh new.node

/-- The set becomes active, the generation rises by one, staging closes, and every block takes the set
up in the one event (R142). -/
def State.commit (new : ConfigSet) (s : State) : State :=
  let zone := s.commitZone new
  let weather := s.weather.commit s.now s.store.active.weather new.weather
  let ctx : Ctx := ⟨new, weather, decide (s.supply.state = .ok), s.now⟩
  State.commitSupply
    { now := s.now
      freeCount := s.freeCount
      trunk := s.trunk
      store := ⟨new, none, s.store.generation + 1⟩
      zone
      weather
      channels :=
        s.channels.mapIdx fun n c => commitChannel ctx zone n (s.record n) (new.channels.get n) c
      branch := s.commitBranch new
      supply := s.supply.commit s.node new.node
      notice := s.commitNotice new
      pending := s.pending }

end Sys2Proof.Machine
end

