-- ==== Sys2Proof/Machine/BranchLine.lean ====
section
/-! DEFINITION. The Branch Master's commands (chapter 6): SLOT_START, BRANCH_RECEPTION and
ANSWER_WINDOW_CLOSE. -/

namespace Sys2Proof.Machine

/-! ## The Stranger List (R119 to R121) -/

/-- A station and serial are added to the Stranger List (R120). -/
def State.addStranger (x : Stranger) (s : State) : State :=
  let list := s.branch.strangers
  if list.contains x then s
  else if list.any fun y => decide (y.station = x.station) then
    (s.setBranch
      { s.branch with
        strangers := (list.filter fun y => decide (y.station ≠ x.station)) ++ [x] }).raise
      (.stranger x.station)
  else if list.length < Config.strangerCapacity then
    (s.setBranch { s.branch with strangers := list ++ [x] }).raise (.stranger x.station)
  else s.setBranch { s.branch with overflow := true }

/-- The entries that a condition keeps. -/
def State.keepStrangers (keep : Stranger → Bool) (s : State) : State :=
  s.setBranch { s.branch with strangers := s.branch.strangers.filter keep }

/-! ## Outcomes of a channel's exchange (R111 to R115) -/

/-- The M cell is written and the channel composed without a hand-over (R78, R114). -/
def Channel.writeKey (ctx : Ctx) (rec : ChannelRecord) (k : Key) (c : Channel) : Channel :=
  if rec.inUse ∧ c.stack.m ≠ keyCell k then
    let st := c.stack.set (keyCell k) .m
    { c with stack := st, result := some (compose ctx.set ctx.weather rec st) }
  else c

/-- The channel after the answer that binds it (R78, R114). -/
def Channel.bind (ctx : Ctx) (rec : ChannelRecord) (a : Answer) (c : Channel) : Channel :=
  ((c.writeKey ctx rec a.key).onEngine (Engine.bind a)).moveTest ctx rec
    |> fun c1 => { c1 with binding := ⟨.bound, some a.serial, some 0⟩ }

/-- A valid answer with an acceptable serial binds an UNBOUND or LOST channel (R114). -/
def State.bindChannel (n : ChannelNo) (a : Answer) (s : State) : State :=
  ((s.keepStrangers fun x => decide (x ≠ ⟨a.station, a.serial⟩)).mapChannel n fun rec c =>
    c.bind s.ctx rec a).raise (.bound n)

/-- The poll carried RELIEVE or STOP (R108). -/
def DriveCommand.settles : DriveCommand → Bool
  | .stop | .relieve _ => true
  | _ => false

/-- The channel before the engine judges an answer of its bound drive (R111): the miss count 0, the
key's composition, and the delivery of a stop or relief. -/
def Channel.heard (ctx : Ctx) (rec : ChannelRecord) (a : Answer) (command : DriveCommand)
    (c : Channel) : Channel :=
  let c1 := ({ c with binding := { c.binding with misses := some 0 } }).write ctx rec .m (keyCell a.key)
  if command.settles then c1.onEngine fun e => { e with stopOwed := false } else c1

/-- An answer of the bound drive (R111). -/
def State.boundAnswer (n : ChannelNo) (a : Answer) (command : DriveCommand) (s : State) : State :=
  let c := (s.channels.get n).heard s.ctx (s.record n) a command
  let j := c.engine.judge s.now n (s.record n) c.result a
  (s.setChannels (s.channels.set n { c with engine := j.engine })).raiseOption j.notice

/-- The channel at its third consecutive miss (R71, R96, R113). -/
def Channel.lose (ctx : Ctx) (rec : ChannelRecord) (c : Channel) : Channel :=
  ({ c with
      binding := { c.binding with status := .lost, misses := none }
      engine := c.engine.lose }).write ctx rec .m none

/-- A miss of a BOUND channel (R113). -/
def State.miss (n : ChannelNo) (s : State) : State :=
  let b := (s.channels.get n).binding
  let count := b.misses.getD 0
  if 2 ≤ count then (s.mapChannel n fun rec c => c.lose s.ctx rec).raise (.lost n)
  else s.mapChannel n fun _ c => { c with binding := { b with misses := some (count + 1) } }

/-- A valid answer counted for a channel (R111, R112, R114, R115). -/
def State.channelAnswer (n : ChannelNo) (a : Answer) (command : DriveCommand) (s : State) : State :=
  let b := (s.channels.get n).binding
  let ok := acceptable (s.record n) a.serial
  match b.status with
  | .bound =>
    if b.serial = some a.serial then s.boundAnswer n a command
    else if ok then s.miss n
    else (s.addStranger ⟨a.station, a.serial⟩).miss n
  | _ => if ok then s.bindChannel n a else s.addStranger ⟨a.station, a.serial⟩

/-- An exchange counted for a channel that brought no valid answer (R113). -/
def State.channelMiss (n : ChannelNo) (s : State) : State :=
  if (s.channels.get n).binding.status = .bound then s.miss n else s

/-! ## SLOT_START (R104 to R107, R116, R117) -/

/-- The station after a station, wrapping from 31 to 1 (R117). -/
def stationAfter (st : Nat) : Nat := if 31 ≤ st then 1 else st + 1

/-- The first unclaimed station from a station on, within so many steps (R117). -/
def firstUnclaimed (set : ConfigSet) : Nat → Nat → Nat
  | 0, st => st
  | k + 1, st => if claimed set st then firstUnclaimed set k (stationAfter st) else st

/-- The poll of a channel's slot (R74, R97, R107, R108). -/
def channelPoll (rec : ChannelRecord) (c : Channel) : Poll where
  station := rec.station
  command := c.engine.command rec (c.result.map (·.target))
  lamp := c.engine.lampField (c.result.map (·.layer))

/-- The exchange a poll opens, and the poll on the line. -/
def Branch.open' (kind : ExchangeKind) (poll : Poll) (start : Nat) (b : Branch) : Branch :=
  { b with exchange := some ⟨kind, poll, start⟩, sent := some poll }

/-- A slot is served (R107, R116, R117). -/
def State.serve (slot : Slot) (start : Nat) (s : State) : Branch :=
  match slot with
  | .idle => { s.branch with sent := none }
  | .channel n =>
    if (s.record n).inUse then
      s.branch.open' (.channel n true) (channelPoll (s.record n) (s.channels.get n)) start
    else { s.branch with sent := none }
  | .discover =>
    match s.branch.farewell with
    | st :: rest => Branch.open' .farewell ⟨st, .stop, none⟩ start { s.branch with farewell := rest }
    | [] =>
      let st := firstUnclaimed s.store.active 31 s.branch.pointer
      Branch.open' .discovery ⟨st, .stop, none⟩ start
        { s.branch with pointer := firstUnclaimed s.store.active 31 (stationAfter st) }

/-- The start of a slot (R105, R106): slot 0 takes the running table from the active set. -/
def State.startSlot (index : Fin 24) (start : Nat) (s : State) : State :=
  let table := if index.1 = 0 then s.store.active.cycle else s.branch.running
  let s1 := s.setBranch { s.branch with schedule := .slot index start, running := table }
  s1.setBranch (s1.serve (table.get index) start)

/-! ## The end of an exchange (R110, R113, R116, R118) -/

/-- The exchange ends. -/
def State.endExchange (s : State) : State := s.setBranch { s.branch with exchange := none }

/-- A valid answer to a discovery poll (R118). -/
def State.discoveryAnswer (a : Answer) (s : State) : State :=
  if accepted s.store.active a.station a.serial then s else s.addStranger ⟨a.station, a.serial⟩

/-- The exchange ends with no answer (R110, R113, R116, R118). -/
def State.noAnswer (x : Exchange) (s : State) : State :=
  match x.kind with
  | .channel n true => s.channelMiss n
  | .channel _ false => s
  | .farewell => s
  | .discovery => s.keepStrangers fun y => decide (y.station ≠ x.poll.station)

/-- The exchange ends with a garbled answer: BRANCH_CRC, and a miss of a BOUND channel (R110, R113). -/
def State.garbledAnswer (x : Exchange) (s : State) : State :=
  let s1 := s.logError .branchCrc .branch (.station x.poll.station)
  match x.kind with
  | .channel n true => s1.channelMiss n
  | _ => s1

/-- The exchange ends with a valid answer (R110 to R118). -/
def State.goodAnswer (x : Exchange) (a : Answer) (s : State) : State :=
  match x.kind with
  | .channel n true => s.channelAnswer n a x.poll.command
  | .channel _ false => s
  | .farewell => s
  | .discovery => s.discoveryAnswer a

/-- The window of the exchange in progress closes without a reception. -/
def State.closeWindow (s : State) : State :=
  match s.branch.exchange with
  | none => s
  | some x => s.endExchange.noAnswer x

/-- SLOT_START (R105). Before the slot or start period in progress has lasted 12 ms there is no such
event (assumption 3). A window whose close was not delivered closed before the slot began. -/
def execSlotStart (s : State) : Host.Outcome State Fault Refusal :=
  match s.branch.schedule with
  | .silent => .next s
  | .starting since =>
    if since + Config.slotMs ≤ s.now then
      .next (s.closeWindow.startSlot 0 (since + Config.slotMs))
    else .next s
  | .slot index since =>
    if since + Config.slotMs ≤ s.now then
      .next (s.closeWindow.startSlot (index + 1) (since + Config.slotMs))
    else .next s

/-- BRANCH_RECEPTION (R110): the first complete reception within the answer window ends the exchange;
any other is discarded. -/
def execBranchReception (chars : List Byte) (s : State) : Host.Outcome State Fault Refusal :=
  match s.branch.exchange with
  | none => .next s
  | some x =>
    if s.now ≤ x.start + Config.windowMs then
      match validAnswer x.poll.station chars with
      | some a => .next (s.endExchange.goodAnswer x a)
      | none => .next (s.endExchange.garbledAnswer x)
    else .next s

/-- ANSWER_WINDOW_CLOSE (R110). Before the window's 8 ms have passed, or with no exchange in progress,
there is no such event (assumption 3). -/
def execAnswerWindowClose (s : State) : Host.Outcome State Fault Refusal :=
  match s.branch.exchange with
  | none => .next s
  | some x => if x.start + Config.windowMs ≤ s.now then .next s.closeWindow else .next s

end Sys2Proof.Machine
end

