-- ==== Sys2Proof/Machine/Group.lean ====
section
/-! DEFINITION. The Group Unit's trunk commands (chapter 4): GROUP_SET and GROUP_RELEASE. -/

namespace Sys2Proof.Machine

/-- The number where it is a group number (R63). -/
def groupIndex (n : Nat) : Option GroupNo := if h : n < 64 then some ⟨n, h⟩ else none

/-- The carried mode a mode byte names (R63): FF hex for absent; any other unlisted code is out of
range. -/
def carriedMode (code : Nat) : Option (Option Mode) :=
  if code = 255 then some none else (modeOf code).map some

/-- A member channel's C cell is placed (R64). -/
def Channel.setComfort (rec : ChannelRecord) (g : GroupNo) (position : Nat) (mode : Option Mode)
    (c : Channel) : Channel :=
  c.place rec .c (some ⟨min position 1000, .group g, mode⟩)

/-- The C cell is the group's own (R66). -/
def comfortOf (g : GroupNo) (cell : Option Cell) : Bool :=
  cell.any fun x => decide (x.origin = .group g)

/-- A GROUP_SET's owner (R63, R64). -/
def actGroupSet (group position mode : Nat) (s : State) : Acted :=
  match groupIndex group, carriedMode mode with
  | some g, some m =>
    Acted.ok []
      (s.mapChannels fun n rec c =>
        if (s.store.active.groups.get g).getLsbD n.1 then c.setComfort rec g position m else c)
  | _, _ => Acted.fieldRange s

/-- GROUP_SET. -/
def execGroupSet (rx : Rx) (group position mode : Nat) (s : State) :
    Host.Outcome State Fault Refusal :=
  .next
    (s.receive rx.port (groupSetFrame rx group position mode)
      (some ⟨true, actGroupSet group position mode⟩))

/-- A GROUP_RELEASE's owner (R63, R66). -/
def actGroupRelease (group : Nat) (s : State) : Acted :=
  match groupIndex group with
  | some g =>
    Acted.ok []
      (s.mapChannels fun n rec c =>
        if (s.store.active.groups.get g).getLsbD n.1 && comfortOf g c.stack.c then
          c.place rec .c none
        else c)
  | none => Acted.fieldRange s

/-- GROUP_RELEASE. -/
def execGroupRelease (rx : Rx) (group : Nat) (s : State) : Host.Outcome State Fault Refusal :=
  .next (s.receive rx.port (groupReleaseFrame rx group) (some ⟨true, actGroupRelease group⟩))

end Sys2Proof.Machine
end

