-- ==== Sys2Proof/Machine/Lines.lean ====
section
/-! DEFINITION. The Trunk Forwarder's own commands (chapter 9): POWER_ON, LINK_DOWN, LINK_UP,
TRANSMISSION_END, TRANSMISSION_START, NODE_RESET and NODE_RESET_TAKES_EFFECT. -/

namespace Sys2Proof.Machine

/-- POWER_ON (R150). -/
def execPowerOn (address : Nat) (rate : LineRate) (contact : Level) (s : State) :
    Host.Outcome State Fault Refusal :=
  .next (s.powerOn address rate contact)

/-- A queue of the port holds the reply that carries the pending reset (R159). -/
def Port.holdsReset (p : Port) : Bool := p.urgent.any (·.reset) || p.normal.any (·.reset)

/-- LINK_DOWN (R149): the queues are emptied, and a reset whose reply was in them takes effect (R159).
A reply that is in flight completes, and its reset waits for that: DEDUCED (assumption 33), unsafe. -/
def execLinkDown (p : TrunkPort) (s : State) : Host.Outcome State Fault Refusal :=
  let s1 := s.setPort p { (s.port p).emptied with link := false }
  if (s.port p).holdsReset then .next s1.nodeReset else .next s1

/-- LINK_UP (R149). -/
def execLinkUp (p : TrunkPort) (s : State) : Host.Outcome State Fault Refusal :=
  .next (s.setPort p { s.port p with link := true })

/-- The frame in flight on a port has been transmitted (R158): its idle gap begins, and the pending
reset whose reply it was takes effect (R159). -/
def State.endTransmission (p : TrunkPort) (s : State) : State :=
  match (s.port p).flight with
  | none => s
  | some x =>
    let s1 := s.setPort p { s.port p with flight := none, gap := true }
    if x.reset then s1.nodeReset else s1

/-- TRANSMISSION_END (R158). With no frame in flight there is no such event (assumption 3). -/
def execTransmissionEnd (p : TrunkPort) (s : State) : Host.Outcome State Fault Refusal :=
  .next (s.endTransmission p)

/-- The transmitter becomes free and takes the head of URGENT, or of NORMAL when URGENT is empty
(R158). -/
def Port.start (p : Port) : Port :=
  match p.urgent, p.normal with
  | x :: rest, _ => { p with flight := some x, urgent := rest, gap := false }
  | [], x :: rest => { p with flight := some x, normal := rest, gap := false }
  | [], [] => { p with gap := false }

/-- TRANSMISSION_START (R158): the closing idle gap has passed. While a frame is in flight there is no
such event (assumption 3). -/
def execTransmissionStart (p : TrunkPort) (s : State) : Host.Outcome State Fault Refusal :=
  if (s.port p).flight.isNone then .next (s.setPort p (s.port p).start) else .next s

/-- A NODE_RESET's owner (R159): it is answered ACCEPTED, and the reply carries the reset. -/
def actNodeReset (s : State) : Acted := ⟨s, none, .accepted, [], true⟩

/-- NODE_RESET (R159). -/
def execNodeReset (rx : Rx) (s : State) : Host.Outcome State Fault Refusal :=
  .next (s.receive rx.port (nodeResetFrame rx) (some ⟨false, actNodeReset⟩))

/-- The frame in flight on the port is the reply that carries the pending reset. -/
def Port.flightResets (p : Port) : Bool := p.flight.any (·.reset)

/-- NODE_RESET_TAKES_EFFECT (R159): the transmission of the reply that carries the pending reset ends.
While that reply is not in flight there is no such event (assumption 3). -/
def execNodeResetTakesEffect (s : State) : Host.Outcome State Fault Refusal :=
  if s.trunk.up.flightResets then .next (s.endTransmission .up)
  else if s.trunk.down.flightResets then .next (s.endTransmission .down)
  else .next s

end Sys2Proof.Machine
end

