-- ==== Sys2Proof/Machine/Motion.lean ====
section
/-! DEFINITION. The Motion Supervisor's commands (chapter 5): LAMP_SET, CHANNEL_CLEAR, DWELL_EXPIRY and
RETRY_EXPIRY. -/

namespace Sys2Proof.Machine

/-- The override a lamp value leaves (R98): AUTO makes it absent; an unlisted value is refused. -/
def overrideOf : Nat → Option (Option Lamp)
  | 3 => some none
  | v => (lampOf v).map some

/-- A LAMP_SET's owner (R98). -/
def actLampSet (channel value : Nat) (s : State) : Acted :=
  match index16 channel, overrideOf value with
  | some n, some x =>
    Acted.ok [] (s.mapChannel n fun _ c => c.onEngine fun e => { e with lampOverride := x })
  | _, _ => Acted.refuse .badValue [] s

/-- LAMP_SET. -/
def execLampSet (rx : Rx) (channel value : Nat) (s : State) : Host.Outcome State Fault Refusal :=
  .next (s.receive rx.port (lampSetFrame rx channel value) (some ⟨false, actLampSet channel value⟩))

/-- A named channel at a CHANNEL_CLEAR (R93). -/
def Channel.clear (ctx : Ctx) (rec : ChannelRecord) (c : Channel) : Channel :=
  if c.engine.state = .latched then
    (c.onEngine fun e => { e with retryCount := 0 }).moveTest ctx rec
  else c

/-- A CHANNEL_CLEAR's owner (R93): one channel, or ALL (FF hex). -/
def actChannelClear (channel : Nat) (s : State) : Acted :=
  if channel = 255 then Acted.ok [] (s.mapChannels fun _ rec c => c.clear s.ctx rec)
  else
    match index16 channel with
    | some n => Acted.ok [] (s.mapChannel n fun rec c => c.clear s.ctx rec)
    | none => Acted.refuse .badValue [] s

/-- CHANNEL_CLEAR. -/
def execChannelClear (rx : Rx) (channel : Nat) (s : State) : Host.Outcome State Fault Refusal :=
  .next (s.receive rx.port (channelClearFrame rx channel) (some ⟨false, actChannelClear channel⟩))

/-- The engine dwells and its dwell timer has reached reversal_dwell_ms (R82). -/
def Engine.dwellDue (now : Nat) (rec : ChannelRecord) (e : Engine) : Bool :=
  match e.state, e.timer with
  | .dwell, some (.dwell t) => decide (rec.reversalDwellMs ≤ now - t)
  | _, _ => false

/-- DWELL_EXPIRY (R82). Before the timer is due there is no such event (assumption 3). -/
def execDwellExpiry (n : Fin 16) (s : State) : Host.Outcome State Fault Refusal :=
  if (s.channels.get n).engine.dwellDue s.now (s.record n) then
    .next (s.mapChannel n fun rec c => c.moveTest s.ctx rec)
  else .next s

/-- The engine waits and its retry timer has reached retry_ms (R89). -/
def Engine.retryDue (now : Nat) (rec : ChannelRecord) (e : Engine) : Bool :=
  match e.state, e.timer with
  | .retryWait, some (.retry t) => decide (rec.retryMs ≤ now - t)
  | _, _ => false

/-- RETRY_EXPIRY (R89). -/
def execRetryExpiry (n : Fin 16) (s : State) : Host.Outcome State Fault Refusal :=
  if (s.channels.get n).engine.retryDue s.now (s.record n) then
    .next (s.mapChannel n fun rec c => c.moveTest s.ctx rec)
  else .next s

end Sys2Proof.Machine
end

