-- ==== Sys2Proof/Machine/Report.lean ====
section
/-! DEFINITION. The Notice Unit's commands (chapter 10): QUERY, COLLECT and ERROR_CLEAR, and the
Dispatcher's UNKNOWN_KIND (R153). -/

namespace Sys2Proof.Machine

/-! ## QUERY bodies (R165, section 9.6) -/

/-- The five bytes of a cell. -/
def cellBytes : Option Cell → List Byte
  | none => [0, 0, 0, 0, 0]
  | some c =>
    [byte 1, byte ((c.carried.map Mode.code).getD 255)] ++ be16 c.value ++ [byte c.origin.code]

/-- The body of QUERY CHANNEL: 41 bytes. -/
def State.channelBody (n : ChannelNo) (s : State) : List Byte :=
  let c := s.channels.get n
  let r := c.result
  let e := c.engine
  [byte e.state.code] ++ be16 ((r.map (·.target)).getD 0xFFFF)
    ++ [byte ((r.map fun x => x.layer.index).getD 255), byte ((r.map fun x => x.wind.code).getD 255),
      byte
        (match r with
        | some x => flagBit x.trimmed 0 + flagBit x.derated 1 + flagBit x.clamped 2
        | none => 128)]
    ++ be16 ((e.position.map (perMille (s.record n))).getD 0xFFFF)
    ++ [byte e.retryCount, byte ((e.lastFault.map Detector.code).getD 255),
      byte (e.wantedLamp (r.map (·.layer))).code]
    ++ cellBytes c.stack.s ++ cellBytes c.stack.f ++ cellBytes c.stack.w ++ cellBytes c.stack.m
    ++ cellBytes c.stack.c ++ cellBytes c.stack.b

/-- The body of QUERY ZONE: 5 bytes. -/
def State.zoneBody (z : ZoneNo) (s : State) : List Byte :=
  let r := s.zone.zones.get z
  [byte (flagBit r.alarm 0 + flagBit r.resetBlocked 1 + flagBit r.episode.isSome 2)]
    ++ be16 ((r.episode.map (·.exhaust)).getD 0) ++ be16 ((r.episode.map (·.inlet)).getD 0)

/-- The time a hold timer has left under its active duration (R47); 0 for a stopped one. -/
def HoldTimer.left (now duration : Nat) : HoldTimer → Nat
  | .stopped => 0
  | t => duration - t.elapsed now

/-- The time the station timer has left. -/
def State.stationLeft (s : State) : Nat :=
  match s.weather.stationTimer with
  | none => 0
  | some t => s.store.active.weather.stationTimeoutMs - (s.now - t)

/-- The seven bytes of the first-error record. -/
def firstErrorBytes : Option FirstError → List Byte
  | none => [0, 0, 0, 0, 0, 0, 0]
  | some x =>
    match x.captured with
    | .nothing => byte (128 + 16 * x.port.code + x.kind.bit) :: [0, 0, 0, 0, 0, 0]
    | .header h => byte (128 + 64 + 16 * x.port.code + x.kind.bit) :: h.bytes
    | .station n => byte (128 + 16 * x.port.code + x.kind.bit) :: [byte n, 0, 0, 0, 0, 0]

/-- The body of QUERY NODE: 37 bytes. -/
def State.nodeBody (s : State) : List Byte :=
  let w := s.weather
  let r := s.store.active.weather
  be32 s.store.generation
    ++ [byte (if s.store.staged.isSome then 1 else 0), byte ((s.store.staged.map (·.opener)).getD 0)]
    ++ be16 ((s.store.staged.map (·.tally)).getD 0)
    ++ [byte (s.supply.state.code + flagBit s.supply.latched 2)]
    ++ be16 (s.supply.last.getD 0xFFFF)
    ++ [byte
        (flagBit w.wet 0 + flagBit w.storm 1 + flagBit w.lost 2 + flagBit s.zone.supervision.lost 3
          + flagBit (decide (s.effective = .active)) 4 + flagBit s.trunk.up.link 5
          + flagBit s.trunk.down.link 6)]
    ++ be16 w.speed ++ [byte ((w.direction.map (·.1)).getD 16)]
    ++ [byte (w.rainHold.code + 4 * w.stormHold.code + 16 * (if w.stationTimer.isSome then 1 else 0))]
    ++ be32 (w.rainHold.left s.now r.rainHoldMs) ++ be32 (w.stormHold.left s.now r.stormHoldMs)
    ++ be32 s.stationLeft
    ++ [byte (s.branch.strangers.length + flagBit s.branch.overflow 7), s.notice.flags]
    ++ firstErrorBytes s.notice.firstError

/-- A QUERY's owner (R165): it changes nothing. -/
def actQuery (subject index : Nat) (s : State) : Acted :=
  match subject with
  | 0 => if index = 0 then Acted.ok s.nodeBody s else Acted.refuse .badIndex [] s
  | 1 =>
    match index16 index with
    | some n => Acted.ok (s.channelBody n) s
    | none => Acted.refuse .badIndex [] s
  | 2 =>
    match index16 index with
    | some z => Acted.ok (s.zoneBody z) s
    | none => Acted.refuse .badIndex [] s
  | _ => Acted.refuse .badValue [] s

/-- QUERY. -/
def execQuery (rx : Rx) (subject index : Nat) (s : State) : Host.Outcome State Fault Refusal :=
  .next (s.receive rx.port (queryFrame rx subject index) (some ⟨false, actQuery subject index⟩))

/-! ## COLLECT (R163) -/

/-- The detail of a notice as its two bytes carry it (section 9.6); 0 when the kind has none. -/
def Notice.detail : Notice → Nat
  | .supply x => x.code
  | .fault _ d => d.code
  | .lineMajor k => k.bit
  | .reached _ target => target
  | .stranger station => station
  | .lineMinor k => k.bit
  | _ => 0

/-- The body of a COLLECT's reply: 4 bytes. -/
def collectBody : Option Notice → List Byte
  | none => [byte 255, byte 255] ++ be16 0
  | some x => [byte x.kind.bit, byte ((x.channel.map (·.1)).getD 255)] ++ be16 x.detail

/-- A COLLECT's owner (R163). -/
def actCollect (s : State) : Acted :=
  match firstOfferable s.node s.notice.notices with
  | some x => Acted.ok (collectBody (some x)) (s.setNotice (s.notice.remove s.node x))
  | none => Acted.ok (collectBody none) s

/-- COLLECT. -/
def execCollect (rx : Rx) (s : State) : Host.Outcome State Fault Refusal :=
  .next (s.receive rx.port (collectFrame rx) (some ⟨false, actCollect⟩))

/-! ## ERROR_CLEAR (R168) -/

/-- An ERROR_CLEAR's owner (R168). -/
def actErrorClear (s : State) : Acted :=
  Acted.ok []
    ((s.setNotice s.notice.clearErrors).setBranch { s.branch with overflow := false })

/-- ERROR_CLEAR. -/
def execErrorClear (rx : Rx) (s : State) : Host.Outcome State Fault Refusal :=
  .next (s.receive rx.port (errorClearFrame rx) (some ⟨false, actErrorClear⟩))

/-! ## UNKNOWN_KIND (R153) -/

/-- The Dispatcher on an addressed frame of an unknown kind. -/
def actUnknownKind (s : State) : Acted := ⟨s, some .unknownKind, .unknownKind, [], false⟩

/-- UNKNOWN_KIND. -/
def execUnknownKind (rx : Rx) (kind : Byte) (payload : List Byte) (s : State) :
    Host.Outcome State Fault Refusal :=
  .next (s.receive rx.port (unknownKindFrame rx kind payload) (some ⟨false, actUnknownKind⟩))

end Sys2Proof.Machine
end

