-- ==== Sys2Proof/Machine/StoreUnit.lean ====
section
/-! DEFINITION. The Configuration Store's commands (chapter 8): SET_WRITE, SET_COMMIT, SET_DISCARD and
READ. -/

namespace Sys2Proof.Machine

/-- The staged set replaced (R137). -/
def State.setStaged (x : Option Staged) (s : State) : State := s.setStore { s.store with staged := x }

/-- The set a write is applied to: the staged set, or, where staging is CLOSED, a copy of the active
set (R139). -/
def State.writeBase (s : State) : ConfigSet :=
  match s.store.staged with
  | some x => x.set
  | none => s.store.active

/-- The tally before a write: 0 where the write opens staging (R139). -/
def State.writeTally (s : State) : Nat :=
  match s.store.staged with
  | some x => x.tally
  | none => 0

/-- Staging is CLOSED, or OPEN with this node as opener (R138 test 4). -/
def State.mayWrite (src : Nat) (s : State) : Bool := s.store.staged.all fun x => decide (x.opener = src)

/-- A SET_WRITE's owner (R138, R139). A record whose length is not its table's is refused by the
length check of R153. -/
def actSetWrite (src table index : Nat) (record : List Byte) (s : State) : Acted :=
  match tableOf table with
  | none => Acted.refuse .badTable s.stagingBody s
  | some t =>
    if record.length ≠ t.recordLength then actBadLength .setWrite s
    else if t.count ≤ index then Acted.refuse .badIndex s.stagingBody s
    else
      match s.writeBase.write t index record with
      | none => Acted.refuse .badValue s.stagingBody s
      | some set =>
        if s.mayWrite src then
          let s1 := s.setStaged (some ⟨set, src, (s.writeTally + 1) % 65536⟩)
          Acted.ok s1.stagingBody s1
        else Acted.refuse .stagingOwned s.stagingBody s

/-- SET_WRITE. -/
def execSetWrite (rx : Rx) (table index : Nat) (record : List Byte) (s : State) :
    Host.Outcome State Fault Refusal :=
  .next
    (s.receive rx.port (setWriteFrame rx table index record)
      (some ⟨false, actSetWrite rx.src table index record⟩))

/-- A SET_COMMIT's owner (R140, R141, R142). -/
def actSetCommit (src tally generation : Nat) (s : State) : Acted :=
  match s.store.staged with
  | none => Acted.refuse .notOpen s.stagingBody s
  | some x =>
    if x.opener ≠ src then Acted.refuse .stagingOwned s.stagingBody s
    else if tally ≠ x.tally then Acted.refuse .tallyMismatch s.stagingBody s
    else if generation ≠ s.store.generation then Acted.refuse .generationMismatch s.stagingBody s
    else if Config.generationMax ≤ s.store.generation then
      Acted.refuse .generationMismatch s.stagingBody s
    else
      match failure x.set with
      | some k =>
        Acted.refuse .invalidSet (s.stagingBody ++ byte k.check :: k.item.bytes) s
      | none => Acted.ok (s.commit x.set).stagingBody (s.commit x.set)

/-- SET_COMMIT. -/
def execSetCommit (rx : Rx) (tally generation : Nat) (s : State) :
    Host.Outcome State Fault Refusal :=
  .next
    (s.receive rx.port (setCommitFrame rx tally generation)
      (some ⟨true, actSetCommit rx.src tally generation⟩))

/-- A SET_DISCARD's owner (R143). -/
def actSetDiscard (s : State) : Acted :=
  Acted.ok (s.setStaged none).stagingBody (s.setStaged none)

/-- SET_DISCARD. -/
def execSetDiscard (rx : Rx) (s : State) : Host.Outcome State Fault Refusal :=
  .next (s.receive rx.port (setDiscardFrame rx) (some ⟨false, actSetDiscard⟩))

/-- The body of an accepted READ of the Stranger List (R144, section 9.6). -/
def State.strangerBody (index : Nat) (s : State) : List Byte :=
  let entry := s.branch.strangers[index]?
  be32 s.store.generation
    ++ [byte s.branch.strangers.length,
      byte (flagBit s.branch.overflow 0 + flagBit entry.isSome 1),
      byte ((entry.map (·.station)).getD 0)]
    ++ be48 ((entry.map fun x => x.serial.toNat).getD 0)

/-- A READ's owner (R144). -/
def actRead (table index copy : Nat) (s : State) : Acted :=
  if table = strangersCode then
    if 8 ≤ index then Acted.refuse .badIndex s.generationBody s
    else if copy ≠ 0 then Acted.refuse .badValue s.generationBody s
    else Acted.ok (s.strangerBody index) s
  else
    match tableOf table with
    | none => Acted.refuse .badTable s.generationBody s
    | some t =>
      if t.count ≤ index then Acted.refuse .badIndex s.generationBody s
      else if copy = 0 then
        Acted.ok (be32 s.store.generation ++ s.store.active.recordBytes t index) s
      else if copy = 1 then
        match s.store.staged with
        | none => Acted.refuse .notOpen s.generationBody s
        | some x => Acted.ok (be16 x.tally ++ x.set.recordBytes t index) s
      else Acted.refuse .badValue s.generationBody s

/-- READ. -/
def execRead (rx : Rx) (table index copy : Nat) (s : State) : Host.Outcome State Fault Refusal :=
  .next (s.receive rx.port (readFrame rx table index copy) (some ⟨false, actRead table index copy⟩))

end Sys2Proof.Machine
end

