-- ==== Sys2Proof/Machine/SupplyUnit.lean ====
section
/-! DEFINITION. The Supply Monitor's commands (chapter 7): SUPPLY_SAMPLE and SUPPLY_CLEAR. -/

namespace Sys2Proof.Machine

/-- How a sample is judged against the window (R127). -/
inductive Verdict where
  | below | inside | above
deriving DecidableEq, Repr

/-- The judgement of a sample (R127). -/
def judgeSample (node : NodeRecord) (v : Nat) : Verdict :=
  if v < node.supplyMin then .below else if node.supplyMax < v then .above else .inside

/-- The state becomes LOW (R129, R130, R131). -/
def Supply.enterLow (node : NodeRecord) (u : Supply) : Supply :=
  { u with
    state := .low
    latched := u.latched || decide (node.supplyMinMode = .latch)
    below := 0
    above := 0
    inWindow := 0 }

/-- The state becomes HIGH (R129, R130, R131). -/
def Supply.enterHigh (node : NodeRecord) (u : Supply) : Supply :=
  { u with
    state := .high
    latched := u.latched || decide (node.supplyMaxMode = .latch)
    below := 0
    above := 0
    inWindow := 0 }

/-- One more sample below, in a state other than LOW. -/
def Supply.oneBelow (node : NodeRecord) (u : Supply) : Supply :=
  if 3 ≤ u.below + 1 then u.enterLow node
  else { u with below := u.below + 1, above := 0, inWindow := 0 }

/-- One more sample above, in a state other than HIGH. -/
def Supply.oneAbove (node : NodeRecord) (u : Supply) : Supply :=
  if 3 ≤ u.above + 1 then u.enterHigh node
  else { u with below := 0, above := u.above + 1, inWindow := 0 }

/-- One more sample in the window, in LOW or HIGH (R130). -/
def Supply.oneInside (u : Supply) : Supply :=
  if 10 ≤ u.inWindow + 1 ∧ u.latched = false then u.back
  else { u with below := 0, above := 0, inWindow := min 10 (u.inWindow + 1) }

/-- The record with every count 0. -/
def Supply.noCounts (u : Supply) : Supply := { u with below := 0, above := 0, inWindow := 0 }

/-- A judged sample on the counts and the state (R129, R130). -/
def Supply.count (node : NodeRecord) (x : Verdict) (u : Supply) : Supply :=
  match u.state, x with
  | .ok, .below => u.oneBelow node
  | .ok, .above => u.oneAbove node
  | .ok, .inside => u.noCounts
  | .low, .below => u.noCounts
  | .low, .above => u.oneAbove node
  | .low, .inside => u.oneInside
  | .high, .below => u.oneBelow node
  | .high, .above => u.noCounts
  | .high, .inside => u.oneInside

/-- The record after a sample (R127): a reading above 400 is taken as 400, and the next sample falls
100 ms after this one. -/
def Supply.sample (node : NodeRecord) (reading : Nat) (u : Supply) : Supply :=
  let v := min reading 400
  ({ u with
      last := some v
      nextSample := u.nextSample.map fun t => t + Config.sampleMs }).count node (judgeSample node v)

/-- A sample is due (R127); in repeater mode none is taken (R135). -/
def Supply.sampleDue (now : Nat) (u : Supply) : Bool := u.nextSample.any fun t => decide (t ≤ now)

/-- SUPPLY_SAMPLE (R127). Before its time there is no such event (assumption 3). -/
def execSupplySample (reading : Nat) (s : State) : Host.Outcome State Fault Refusal :=
  if s.supply.sampleDue s.now then
    let u := s.supply.sample s.node reading
    if u.state = s.supply.state then .next (s.setSupply u) else .next (s.changeSupply u)
  else .next s

/-- The last sample is present and in the window (R132). -/
def State.lastInside (s : State) : Bool :=
  s.supply.last.any fun v => decide (judgeSample s.node v = .inside)

/-- A SUPPLY_CLEAR's owner (R132). -/
def actSupplyClear (s : State) : Acted :=
  if s.lastInside then
    let s1 := if s.supply.state = .ok then s else s.changeSupply s.supply.back
    Acted.ok s1.supplyBody s1
  else Acted.refuse .stillOut s.supplyBody s

/-- SUPPLY_CLEAR. -/
def execSupplyClear (rx : Rx) (s : State) : Host.Outcome State Fault Refusal :=
  .next (s.receive rx.port (supplyClearFrame rx) (some ⟨false, actSupplyClear⟩))

end Sys2Proof.Machine
end

