-- ==== Sys2Proof/Machine/WeatherUnit.lean ====
section
/-! DEFINITION. The Weather Unit's commands (chapter 3): WEATHER, RAIN_HOLD_EXPIRY, STORM_HOLD_EXPIRY
and STATION_TIMEOUT. -/

namespace Sys2Proof.Machine

/-- Steps 1 to 4 of R49: the station and the readings. -/
def WeatherRuntime.reading (now : Nat) (r : WeatherRecord) (speed direction : Nat)
    (w : WeatherRuntime) : WeatherRuntime :=
  let w1 := if w.lost then { w.resume now r with lost := false } else w
  { w1 with
    stationTimer := some now
    speed := min speed 600
    direction := index16 direction }

/-- The hold timer of a reading that does not end it: started if stopped, and continuing if running
(R50, R51). -/
def HoldTimer.start (now : Nat) : HoldTimer → HoldTimer
  | .stopped => .running now 0
  | t => t

/-- The rain flag (R50). -/
def WeatherRuntime.applyRain (now : Nat) (rain : Bool) (w : WeatherRuntime) : WeatherRuntime :=
  if rain then { w with wet := true, rainHold := .stopped }
  else if w.wet then { w with rainHold := w.rainHold.start now }
  else w

/-- The speed (R51). -/
def WeatherRuntime.applyStorm (now : Nat) (r : WeatherRecord) (w : WeatherRuntime) : WeatherRuntime :=
  if w.storm then
    if r.stormOff ≤ w.speed then { w with stormHold := .stopped }
    else { w with stormHold := w.stormHold.start now }
  else if r.stormOn ≤ w.speed then { w with storm := true, stormHold := .stopped }
  else w

/-- An accepted WEATHER frame on the runtime record (R49 to R51). -/
def WeatherRuntime.frame (now : Nat) (r : WeatherRecord) (speed direction rain : Nat)
    (w : WeatherRuntime) : WeatherRuntime :=
  ((w.reading now r speed direction).applyRain now (decide (rain ≠ 0))).applyStorm now r

/-- A WEATHER frame is accepted from its source (R48). -/
def weatherAccepted (r : WeatherRecord) (src : Nat) : Bool :=
  decide (r.source = 0) || decide (r.source = src)

/-- A WEATHER frame's owner (R48): it answers ACCEPTED whether or not the frame is accepted. -/
def actWeather (src speed direction rain : Nat) (s : State) : Acted :=
  if weatherAccepted s.store.active.weather src then
    Acted.ok [] (s.changeWeather (s.weather.frame s.now s.store.active.weather speed direction rain))
  else Acted.ok [] s

/-- WEATHER. -/
def execWeather (rx : Rx) (speed direction rain : Nat) (s : State) :
    Host.Outcome State Fault Refusal :=
  .next
    (s.receive rx.port (weatherFrame rx speed direction rain)
      (some ⟨true, actWeather rx.src speed direction rain⟩))

/-- RAIN_HOLD_EXPIRY (R52). Before the hold is due there is no such event (assumption 3). -/
def execRainHoldExpiry (s : State) : Host.Outcome State Fault Refusal :=
  if s.weather.rainHold.due s.now s.store.active.weather.rainHoldMs then
    .next ((s.changeWeather s.weather.endRain).settle s)
  else .next s

/-- STORM_HOLD_EXPIRY (R52). -/
def execStormHoldExpiry (s : State) : Host.Outcome State Fault Refusal :=
  if s.weather.stormHold.due s.now s.store.active.weather.stormHoldMs then
    .next ((s.changeWeather s.weather.endStorm).settle s)
  else .next s

/-- The station timer runs and has reached station_timeout_ms (R47). -/
def State.stationDue (s : State) : Bool :=
  s.weather.stationTimer.any fun t => decide (s.store.active.weather.stationTimeoutMs ≤ s.now - t)

/-- STATION_TIMEOUT (R53). -/
def execStationTimeout (s : State) : Host.Outcome State Fault Refusal :=
  if s.stationDue then
    .next ((s.changeWeather (s.weather.lose s.now s.store.active.weather.policy)).settle s)
  else .next s

end Sys2Proof.Machine
end

