-- ==== Sys2Proof/Machine/Zone.lean ====
section
/-! DEFINITION. The Zone Unit's commands (chapter 2): ZONE_ALARM, ZONE_RESET, CONTACT_INPUT_CHANGE,
PENDING_CHANGE_ACCEPTED and PANEL_TIMEOUT. -/

namespace Sys2Proof.Machine

/-- The optional pair of positions is in range (R26). -/
def episodeInRange (episode : Option Positions) : Bool :=
  episode.all fun p => decide (p.exhaust ≤ 1000) && decide (p.inlet ≤ 1000)

/-- A ZONE_ALARM's owner (R26, R27). -/
def actZoneAlarm (zone : Nat) (episode : Option Positions) (s : State) : Acted :=
  match index16 zone with
  | none => Acted.fieldRange s
  | some z =>
    if episodeInRange episode then
      Acted.ok [] ((s.setZoneRuntime z ⟨true, episode, false⟩).recomputeSmoke z)
    else Acted.fieldRange s

/-- ZONE_ALARM. -/
def execZoneAlarm (rx : Rx) (zone : Nat) (episode : Option Positions) (s : State) :
    Host.Outcome State Fault Refusal :=
  .next (s.receive rx.port (zoneAlarmFrame rx zone episode) (some ⟨true, actZoneAlarm zone episode⟩))

/-- The effective contact holds the zone (R28, R36). -/
def State.contactHolds (z : ZoneNo) (s : State) : Bool :=
  decide (z = s.node.contactZone) && decide (s.effective = .active)

/-- A ZONE_RESET's owner (R26, R28). -/
def actZoneReset (zone : Nat) (s : State) : Acted :=
  match index16 zone with
  | none => Acted.fieldRange s
  | some z =>
    if s.contactHolds z then
      Acted.ok [] (s.setZoneRuntime z { s.zone.zones.get z with resetBlocked := true })
    else Acted.ok [] ((s.setZoneRuntime z ⟨false, none, false⟩).recomputeSmoke z)

/-- ZONE_RESET. -/
def execZoneReset (rx : Rx) (zone : Nat) (s : State) : Host.Outcome State Fault Refusal :=
  .next (s.receive rx.port (zoneResetFrame rx zone) (some ⟨true, actZoneReset zone⟩))

/-- The contact deglitch after the input takes a level (R32). -/
def Contact.input (level : Level) (now : Nat) (c : Contact) : Contact :=
  if level = c.accepted then { c with pendingSince := none }
  else { c with pendingSince := c.pendingSince.or (some now) }

/-- CONTACT_INPUT_CHANGE. -/
def execContactInputChange (level : Level) (s : State) : Host.Outcome State Fault Refusal :=
  .next (s.setZone { s.zone with contact := s.zone.contact.input level s.now })

/-- The pending change becomes the accepted level (R32), which may change the effective contact (R34,
R35). In repeater mode no contact alarm is made (R35). -/
def State.acceptContact (s : State) : State :=
  let s1 := s.setZone { s.zone with contact := ⟨otherLevel s.zone.contact.accepted, none⟩ }
  if s.effective = .inactive ∧ s1.effective = .active ∧ s.repeater = false then s1.contactAlarm.settle s else s1

/-- PENDING_CHANGE_ACCEPTED. Before the deglitch time is reached, or with nothing pending, there is no
such event and nothing changes (assumption 3). -/
def execPendingChangeAccepted (s : State) : Host.Outcome State Fault Refusal :=
  if s.zone.contact.due s.now s.node.contactDeglitchMs then .next s.acceptContact else .next s

/-- The supervision timer runs and has reached panel_timeout_ms (R38, R39). -/
def State.panelDue (s : State) : Bool :=
  !s.zone.supervision.lost
    && s.zone.supervision.timer.any fun t => decide (s.node.panelTimeoutMs ≤ s.now - t)

/-- PANEL_TIMEOUT (R39). Before the timer is due there is no such event (assumption 3). -/
def execPanelTimeout (s : State) : Host.Outcome State Fault Refusal :=
  if s.panelDue then
    .next ((s.setZone { s.zone with supervision := ⟨true, none⟩ }).placeFallback.settle s)
  else .next s

end Sys2Proof.Machine
end

