-- ==== Sys2Proof/Machine/Reception.lean ====
section
/-! DEFINITION. FRAME_RECEPTION (R151): the characters of a trunk reception are judged by the frame
check and the form check, and a frame that passes both is received. -/

namespace Sys2Proof.Machine

/-- The effect of a frame command: the frame an owner acts on has that owner's meaning, so that a
reception has one effect however its command is spelled. -/
def execFrame (c : Instr) (s : State) : Host.Outcome State Fault Refusal :=
  match c with
  | .unknownKind rx kind payload => execUnknownKind rx kind payload s
  | .zoneAlarm rx zone episode => execZoneAlarm rx zone episode s
  | .zoneReset rx zone => execZoneReset rx zone s
  | .weather rx speed direction rain => execWeather rx speed direction rain s
  | .groupSet rx group position mode => execGroupSet rx group position mode s
  | .groupRelease rx group => execGroupRelease rx group s
  | .setWrite rx table index record => execSetWrite rx table index record s
  | .setCommit rx tally generation => execSetCommit rx tally generation s
  | .setDiscard rx => execSetDiscard rx s
  | .read rx table index copy => execRead rx table index copy s
  | .query rx subject index => execQuery rx subject index s
  | .collect rx => execCollect rx s
  | .lampSet rx channel value => execLampSet rx channel value s
  | .channelClear rx channel => execChannelClear rx channel s
  | .errorClear rx => execErrorClear rx s
  | .supplyClear rx => execSupplyClear rx s
  | .nodeReset rx => execNodeReset rx s
  | _ => .next s

/-- What acts on a frame that spells no command: nothing on a REPLY, whatever its payload length
(DEDUCED, assumption 9), and the length check on the others (R153). -/
def ownerOfRest (f : Frame) : Option Owner :=
  match kindOf f.kind with
  | some .reply => none
  | some k => some ⟨false, actBadLength k⟩
  | none => none

/-- FRAME_RECEPTION (R151). A reception that was in progress when the node was reset, which is one begun
in an earlier listening period, is abandoned (R159). -/
def execFrameReception (p : TrunkPort) (period : Nat) (chars : List Byte) (s : State) :
    Host.Outcome State Fault Refusal :=
  if period ≠ s.trunk.period then .next s
  else
    match judgeReception chars with
    | .crcBad => .next (s.logError .crcBad (errorPortOf p) .nothing)
    | .malformed h => .next (s.logError .malformed (errorPortOf p) (.header h))
    | .frame f =>
      match commandOf p f with
      | some c => execFrame c s
      | none => .next (s.receive p f (ownerOfRest f))

end Sys2Proof.Machine
end

