-- ==== Sys2Proof/Machine/Dispatch.lean ====
section
/-! DEFINITION. The meaning of each command: one arm per constructor, one call per arm. -/

namespace Sys2Proof.Machine

def exec (i : Instr) (s : State) : Host.Outcome State Fault Refusal :=
  match i with
  | .powerOn address rate contact => Sys2Proof.Machine.execPowerOn address rate contact s
  | .linkDown port => Sys2Proof.Machine.execLinkDown port s
  | .linkUp port => Sys2Proof.Machine.execLinkUp port s
  | .frameReception port period chars => Sys2Proof.Machine.execFrameReception port period chars s
  | .unknownKind rx kind payload => Sys2Proof.Machine.execUnknownKind rx kind payload s
  | .zoneAlarm rx zone episode => Sys2Proof.Machine.execZoneAlarm rx zone episode s
  | .zoneReset rx zone => Sys2Proof.Machine.execZoneReset rx zone s
  | .weather rx speed direction rain => Sys2Proof.Machine.execWeather rx speed direction rain s
  | .groupSet rx group position mode => Sys2Proof.Machine.execGroupSet rx group position mode s
  | .groupRelease rx group => Sys2Proof.Machine.execGroupRelease rx group s
  | .setWrite rx table index record => Sys2Proof.Machine.execSetWrite rx table index record s
  | .setCommit rx tally generation => Sys2Proof.Machine.execSetCommit rx tally generation s
  | .setDiscard rx => Sys2Proof.Machine.execSetDiscard rx s
  | .read rx table index copy => Sys2Proof.Machine.execRead rx table index copy s
  | .query rx subject index => Sys2Proof.Machine.execQuery rx subject index s
  | .collect rx => Sys2Proof.Machine.execCollect rx s
  | .lampSet rx channel value => Sys2Proof.Machine.execLampSet rx channel value s
  | .channelClear rx channel => Sys2Proof.Machine.execChannelClear rx channel s
  | .errorClear rx => Sys2Proof.Machine.execErrorClear rx s
  | .supplyClear rx => Sys2Proof.Machine.execSupplyClear rx s
  | .nodeReset rx => Sys2Proof.Machine.execNodeReset rx s
  | .nodeResetTakesEffect => Sys2Proof.Machine.execNodeResetTakesEffect s
  | .transmissionEnd port => Sys2Proof.Machine.execTransmissionEnd port s
  | .transmissionStart port => Sys2Proof.Machine.execTransmissionStart port s
  | .contactInputChange level => Sys2Proof.Machine.execContactInputChange level s
  | .pendingChangeAccepted => Sys2Proof.Machine.execPendingChangeAccepted s
  | .panelTimeout => Sys2Proof.Machine.execPanelTimeout s
  | .rainHoldExpiry => Sys2Proof.Machine.execRainHoldExpiry s
  | .stormHoldExpiry => Sys2Proof.Machine.execStormHoldExpiry s
  | .stationTimeout => Sys2Proof.Machine.execStationTimeout s
  | .dwellExpiry channel => Sys2Proof.Machine.execDwellExpiry channel s
  | .retryExpiry channel => Sys2Proof.Machine.execRetryExpiry channel s
  | .supplySample reading => Sys2Proof.Machine.execSupplySample reading s
  | .slotStart => Sys2Proof.Machine.execSlotStart s
  | .branchReception chars => Sys2Proof.Machine.execBranchReception chars s
  | .answerWindowClose => Sys2Proof.Machine.execAnswerWindowClose s

end Sys2Proof.Machine
end

