-- ==== Sys2Proof/Safety.lean ====
section
/-! DEFINITION. What a good state of the part is: the laws that the manual states of each block and that
every command keeps, in the terms the statements use. Each law is decidable. -/

namespace Sys2Proof

/-- The node of address `a` receives the frame under this header: its source is not the node's own
address (R151 check 3). -/
abbrev Rx.ReceivedBy (rx : Rx) (a : Nat) (s : Machine.State) : Prop :=
  s.trunk.address = some a ∧ rx.src ≠ a

end Sys2Proof

namespace Sys2Proof.Machine

/-! ## Frames and routes -/

/-- Every field of a frame lies in its range (section 9.2). -/
abbrev Frame.InForm (f : Frame) : Prop :=
  f.dst ≤ 62 ∧ 1 ≤ f.src ∧ f.src ≤ 62 ∧ f.hop ≤ 31 ∧ f.seq ≤ 255 ∧ f.payload.length ≤ 48

/-- What follows the acting on a received broadcast or addressed frame that reports no line error: the
reply ACCEPTED without a body to the frame's sender, or the forwarding of a broadcast (R152, R153). -/
def State.passOn (p : TrunkPort) (f : Frame) (a : Nat) (s : State) : State :=
  if f.dst = a then s.reply p f a .accepted [] false else s.forwardOnly p f

/-- A channel's stack once panel supervision has seen a frame (R38, R40): where the frame ends the LOST
state the F cell is gone. -/
def State.heardStack (src : Nat) (st : Stack) (s : State) : Stack :=
  if src = s.node.panelAddress ∧ s.zone.supervision.lost = true then { st with f := none } else st

/-! ## The Notice Unit -/

/-- ATTENTION is asserted exactly while an offerable record is pending (R164), and the set holds at
most one record of each kind and channel, in the order of R161's table. -/
abbrev State.NoticeLaw (s : State) : Prop :=
  s.notice.attention = s.notice.notices.any (offerable s.node)
    ∧ (s.notice.notices.map Notice.place).Pairwise (· < ·)

/-! ## The trunk ports -/

/-- The queues keep their capacities (R158), a port whose link is DOWN queues nothing (R149), nothing
waits at a free transmitter, and no idle gap runs during a transmission (R158). -/
abbrev Port.Law (p : Port) : Prop :=
  p.urgent.length ≤ Config.urgentCapacity ∧ p.normal.length ≤ Config.normalCapacity
    ∧ (p.link = false → p.urgent = [] ∧ p.normal = [])
    ∧ (p.flight = none → p.gap = false → p.urgent = [] ∧ p.normal = [])
    ∧ (p.flight ≠ none → p.gap = false)

abbrev State.PortLaw (s : State) : Prop := s.trunk.up.Law ∧ s.trunk.down.Law

/-- Some frame of the port is the reply that carries a node reset. -/
def Port.carriesReset (p : Port) : Bool := p.holdsReset || p.flightResets

/-- A reset is pending exactly while a reply that carries it waits or is in flight (R159; on a link gone
DOWN since too, assumption 33). -/
abbrev State.ResetLaw (s : State) : Prop :=
  s.trunk.pendingReset = (s.trunk.up.carriesReset || s.trunk.down.carriesReset)

/-! ## The demand stacks -/

/-- An in-use channel has its B cell, and its result is the composition of its inputs; a channel not in
use has neither cells nor result (R2, R3, R18). -/
abbrev State.CompositionLaw (s : State) : Prop :=
  ∀ n : ChannelNo,
    if (s.record n).inUse then
      (s.channels.get n).stack.b = some (baseCell (s.record n))
        ∧ (s.channels.get n).result
            = some (compose s.store.active s.weather (s.record n) (s.channels.get n).stack)
    else (s.channels.get n).stack = Stack.empty ∧ (s.channels.get n).result = none

/-- A present C cell has a group of the channel's as origin (R66) and a value in range (R1). -/
def comfortInOrder (groups : Table (BitVec 16) 64) (n : ChannelNo) : Option Cell → Bool
  | none => true
  | some ⟨v, .group g, _⟩ => (groups.get g).getLsbD n.1 && decide (v ≤ 1000)
  | some _ => false

/-- The cells of an in-use channel are those its producers' states ask for: S the zones (R30), F panel
supervision (R41), W the weather (R57), M absent while the channel is not BOUND (R71), C of a group
that contains the channel (R66). -/
abbrev State.CellLaw (s : State) : Prop :=
  ∀ n : ChannelNo, (s.record n).inUse = true →
    (s.channels.get n).stack.s = smokeCell s.store.active s.zone.zones (s.record n)
      ∧ (s.channels.get n).stack.f = fallbackCell s.zone.supervision.lost (s.record n)
      ∧ (s.channels.get n).stack.w
          = weatherCell s.store.active.weather.policy s.weather (s.record n)
      ∧ ((s.channels.get n).binding.status ≠ .bound → (s.channels.get n).stack.m = none)
      ∧ comfortInOrder s.store.active.groups n (s.channels.get n).stack.c = true

/-! ## The engines and bindings -/

/-- MOVING or DWELL, the states that have a direction and evaluate detectors. -/
def EngineState.travels : EngineState → Bool
  | .moving | .dwell => true
  | _ => false

/-- The timer of a state (R73): a dwell timer in DWELL, a retry timer in RETRY_WAIT, else none. -/
def timerFits : EngineState → Option EngineTimer → Bool
  | .dwell, some (.dwell _) => true
  | .retryWait, some (.retry _) => true
  | .dwell, _ => false
  | .retryWait, _ => false
  | _, t => t.isNone

/-- The fields of an engine that depend on its state (R73, R83, R96, R100). -/
abbrev Engine.Law (e : Engine) : Prop :=
  (e.direction.isSome = e.state.travels)
    ∧ timerFits e.state e.timer = true
    ∧ (e.position.isNone = decide (e.state = .unbound))
    ∧ e.retryCount ≤ 255
    ∧ (e.state.travels = false →
        e.overcurrentRun = none ∧ e.armed = DetectorMarks.all)
    ∧ (e.state ≠ .moving → e.noLoadRun = none ∧ e.reference = none)
    ∧ (e.state = .moving → e.stopOwed = false)
    ∧ (e.state = .lost → e.retryCount = 0 ∧ e.stopOwed = false)
    ∧ (e.state = .unbound → e = { Engine.powerOn with lampOverride := e.lampOverride })

/-- The binding status that goes with an engine state (section 6.5). -/
def EngineState.binding : EngineState → BindingStatus
  | .unbound => .unbound
  | .lost => .lost
  | _ => .bound

/-- The binding record agrees with the engine and its fields are present as section 6.5 says. -/
abbrev Channel.BindingLaw (c : Channel) : Prop :=
  c.binding.status = c.engine.state.binding
    ∧ c.binding.serial.isSome = decide (c.binding.status ≠ .unbound)
    ∧ c.binding.misses.isSome = decide (c.binding.status = .bound)
    ∧ (∀ k ∈ c.binding.misses, k ≤ 2)

/-- The exchange that counts for a channel polls that channel's station, and the channel is in use
(R107, R110). -/
def State.exchangeInOrder (s : State) : Bool :=
  match s.branch.exchange with
  | some ⟨.channel n true, poll, _⟩ =>
    (s.record n).inUse && decide (poll.station = (s.record n).station)
  | _ => true

/-- Every engine and binding record is in order, and a channel not in use is UNBOUND (R20). -/
abbrev State.EngineLaw (s : State) : Prop :=
  s.exchangeInOrder = true
    ∧ ∀ n : ChannelNo,
        (s.channels.get n).engine.Law ∧ (s.channels.get n).BindingLaw
          ∧ ((s.record n).inUse = false → (s.channels.get n).engine.state = .unbound)

/-- No channel is LATCHED while S decides it (R91). -/
abbrev State.SmokeLaw (s : State) : Prop :=
  ∀ n : ChannelNo, (s.channels.get n).engine.state = .latched →
    (s.channels.get n).result.map (·.layer) ≠ some .s

/-- While the supply is out of its window no channel moves or dwells (R77, R94). -/
abbrev State.HoldLaw (s : State) : Prop :=
  s.supply.state ≠ .ok → ∀ n : ChannelNo, (s.channels.get n).engine.state.travels = false

/-! ## The other blocks -/

def HoldTimer.isStopped : HoldTimer → Bool
  | .stopped => true
  | _ => false

def HoldTimer.isRunning : HoldTimer → Bool
  | .running _ _ => true
  | _ => false

def HoldTimer.isFrozen : HoldTimer → Bool
  | .frozen _ => true
  | _ => false

/-- A hold timer of a runtime record: stopped unless the state it guards holds, running unless the
station is LOST under HOLD_LAST, where it is frozen (R47, R55). -/
abbrev HoldTimer.Law (guarded held : Bool) (t : HoldTimer) : Prop :=
  (guarded = false → t.isStopped = true) ∧ (held = true → t.isRunning = false)
    ∧ (held = false → t.isFrozen = false)

/-- The weather runtime record (R47): its holds, its station timer, its speed. -/
abbrev State.WeatherLaw (s : State) : Prop :=
  s.weather.rainHold.Law s.weather.wet
      (s.weather.lost && decide (s.store.active.weather.policy = .holdLast))
    ∧ s.weather.stormHold.Law s.weather.storm
        (s.weather.lost && decide (s.store.active.weather.policy = .holdLast))
    ∧ s.weather.stationTimer.isNone = s.weather.lost
    ∧ s.weather.speed ≤ 600

/-- The Supply Monitor's record (chapter 7): the counts keep their ranges, and the latched flag is set
in LOW and HIGH alone (R131). -/
abbrev State.SupplyLaw (s : State) : Prop :=
  (s.supply.latched = true → s.supply.state ≠ .ok)
    ∧ (s.supply.state = .ok → s.supply.inWindow = 0)
    ∧ s.supply.below ≤ 2 ∧ s.supply.above ≤ 2 ∧ s.supply.inWindow ≤ 10
    ∧ (s.supply.latched = false → s.supply.inWindow ≤ 9)
    ∧ (∀ v ∈ s.supply.last, v ≤ 400)

/-- Panel supervision (R38, R40): its timer runs exactly in state OK from generation 1 on, and in
generation 0 the state is OK. -/
abbrev State.SupervisionLaw (s : State) : Prop :=
  s.zone.supervision.timer.isSome
      = (!s.zone.supervision.lost && decide (1 ≤ s.store.generation))
    ∧ (s.store.generation = 0 → s.zone.supervision.lost = false)

/-- While the effective contact is ACTIVE, contact_zone is in ALARM (R36); in repeater mode no contact
alarm is made (R35). -/
abbrev State.ContactLaw (s : State) : Prop :=
  s.repeater = false → s.effective = .active →
    (s.zone.zones.get s.node.contactZone).alarm = true

/-- Every record of the set holds values its table allows (the write checks of R138 test 3). -/
abbrev ConfigSet.InRange (set : ConfigSet) : Prop :=
  (∀ n : ChannelNo, (set.channels.get n).inRange = true ∧ (set.channels.get n).serial ≠ some 0)
    ∧ (∀ l ∈ layersInOrder, (set.layers.get l).inRange l = true)
    ∧ (∀ z : ZoneNo, (set.zones.get z).inRange = true)
    ∧ set.weather.inRange = true ∧ set.node.inRange = true

/-- The Configuration Store: the active set passes every validation check (R141), both sets hold
allowed values, and the tally and generation keep their ranges (chapter 8). -/
abbrev State.StoreLaw (s : State) : Prop :=
  failure s.store.active = none ∧ s.store.active.InRange
    ∧ s.store.generation ≤ Config.generationMax
    ∧ (∀ x ∈ s.store.staged, x.set.InRange ∧ x.tally < 65536)

/-- The Branch Master's lists and pointer (R117, R119, R122): the Stranger List holds at most 8 entries
of distinct stations, the farewell list at most 16 distinct stations, none of them claimed, and the
pointer names a station. -/
abbrev State.BranchLaw (s : State) : Prop :=
  s.branch.strangers.length ≤ Config.strangerCapacity
    ∧ (s.branch.strangers.map (·.station)).Nodup
    ∧ s.branch.farewell.length ≤ Config.farewellCapacity
    ∧ s.branch.farewell.Nodup
    ∧ (∀ x ∈ s.branch.farewell, claimed s.store.active x = false)
    ∧ 1 ≤ s.branch.pointer ∧ s.branch.pointer ≤ 31

/-- A part in repeater mode (R35, R126, R135, R146, R150): nothing but its ports, its contact and its
time base ever leaves the power-on state. -/
abbrev State.RepeaterLaw (s : State) : Prop :=
  s.repeater = true →
    s.store = ⟨defaultSet, none, 0⟩
      ∧ s.zone.zones = Table.fill ⟨false, none, false⟩
      ∧ s.zone.supervision = ⟨false, none⟩
      ∧ s.weather = WeatherRuntime.powerOn
      ∧ s.channels = Table.fill Channel.powerOn
      ∧ s.branch = Branch.powerOn true 0
      ∧ s.supply = Supply.powerOn true 0
      ∧ s.notice = NoticeUnit.powerOn
      ∧ s.trunk.pendingReset = false
      ∧ s.trunk.up.carriesReset = false ∧ s.trunk.down.carriesReset = false

/-- Every law at once. -/
abbrev State.Good (s : State) : Prop :=
  s.NoticeLaw ∧ s.PortLaw ∧ s.ResetLaw ∧ s.CompositionLaw ∧ s.CellLaw ∧ s.EngineLaw ∧ s.SmokeLaw
    ∧ s.HoldLaw ∧ s.WeatherLaw ∧ s.SupplyLaw ∧ s.SupervisionLaw ∧ s.ContactLaw ∧ s.StoreLaw
    ∧ s.BranchLaw ∧ s.RepeaterLaw

end Sys2Proof.Machine
end

