-- ==== Sys2Proof/Certificates/Slice0/Obligations.lean ====
section
/-! DEFINITION. The statements for the provers. -/

open Sys2Proof Sys2Proof.Machine

/-! ## The step and the commands as a whole -/

/-- The step takes the command at the front of the queue and runs it on the state with the queue's rest;
with no command waiting a millisecond passes (the model's choice, assumption 2). -/
def Obligations.StepRunsFrontCommand : Prop :=
  (∀ (c : Instr) (rest : List Instr) (s : Machine.State), s.pending = c :: rest →
      step s = exec c (s.setPending rest))
    ∧ ∀ s : Machine.State, s.pending = [] → step s = .next { s with now := s.now + 1 }

/-- No command faults or is refused in any state, and none moves the time base or the queue: the model's
reading and its choices (assumptions 27, 22 and 3: no command stops, POWER_ON keeps the time base, a
command whose event has not come about changes nothing). -/
def Obligations.CommandsAnswerNextState : Prop :=
  ∀ (c : Instr) (s : Machine.State),
    ∃ t, exec c s = .next t ∧ t.now = s.now ∧ t.pending = s.pending

/-! ## Characters, frames and records (section 9.6) -/

/-- R160: the frame check starts at FFFF hex and takes every character from bit 7 to bit 0 through the
generator x^16 + x^12 + x^5 + 1, one bit a step; it is sent high byte first, and it is good exactly where
the last two characters are the check of the others. A frame's characters are its header, its payload and
the check of both. The characters of a well-formed frame command pass the frame check and the form check
as that command's frame, and the frame spells the command, when its payload has a length allowed for its
kind. -/
def Obligations.FrameCharactersSpellCommand : Prop :=
  crc [] = 0xFFFF#16
    ∧ (∀ (chars : List Byte) (b : Byte),
        let step := fun (r : BitVec 16) (k : Nat) =>
          (r <<< 1) ^^^ (if r.getLsbD 15 = b.getLsbD k then 0#16 else 0x1021#16)
        crc (chars ++ [b]) = [7, 6, 5, 4, 3, 2, 1, 0].foldl step (crc chars))
    ∧ (∀ chars : List Byte,
        crcBytes chars = [(crc chars).extractLsb' 8 8, (crc chars).extractLsb' 0 8])
    ∧ (∀ (body : List Byte) (high low : Byte),
        crcGood (body ++ [high, low]) = true ↔ [high, low] = crcBytes body)
    ∧ (∀ f : Frame,
        let body := [f.kind, byte f.dst, byte f.src, byte f.hop, byte f.seq, byte f.payload.length]
          ++ f.payload
        f.chars = body ++ crcBytes body)
    ∧ ∀ (c : Instr) (p : TrunkPort) (f : Frame), c.wellFormed = true → frameOf c = some (p, f) →
        judgeReception f.chars = .frame f
          ∧ ((∀ k, kindOf f.kind = some k → lengthAllowed k f.payload = true) → commandOf p f = some c)

/-- A reception of the characters of a well-formed frame command has the effect of that command in
every state, whatever the frame's route and length: the model's choice of two spellings of one reception
(assumption 8), begun in the present listening period (assumption 11). -/
def Obligations.ReceptionHasCommandEffect : Prop :=
  ∀ (c : Instr) (p : TrunkPort) (f : Frame) (s : Machine.State),
    c.wellFormed = true → frameOf c = some (p, f) →
      exec (.frameReception p s.trunk.period f.chars) s = exec c s

/-- A record that a table accepts reads back byte for byte from where it was written, and every other
record of the set reads back as before. -/
def Obligations.WrittenRecordReadsBack : Prop :=
  ∀ (old new : ConfigSet) (t : TableName) (i : Nat) (bytes : List Byte),
    old.write t i bytes = some new →
      new.recordBytes t i = bytes
        ∧ ∀ (u : TableName) (j : Nat), u ≠ t ∨ (j ≠ i ∧ 1 < u.count) →
            new.recordBytes u j = old.recordBytes u j

/-- The fifteen characters of a drive's answer, its fields in range, end in the check of the thirteen
others (R160) and read back as that answer: to the station polled as a valid answer, to another station as
a garbled one. -/
def Obligations.AnswerCharactersReadBack : Prop :=
  ∀ a : Answer, a.station < 256 → a.serial ≠ 0 → a.position ≤ 1023 → a.current ≤ 4000 →
    a.chars.length = 15 ∧ a.chars.drop 13 = crcBytes (a.chars.take 13)
      ∧ validAnswer a.station a.chars = some a
      ∧ ∀ station, station ≠ a.station → validAnswer station a.chars = none

/-! ## Receiving, forwarding, replying -/

/-- R151's checks: a reception shorter than 8 characters or with a bad check logs CRC_BAD without
header; a frame out of form logs MALFORMED with its header; a frame from the node's own address logs
LOOP with its header; nothing else happens. R159: a reception that a node reset found in progress, which
is one begun in an earlier listening period (assumption 11), is abandoned. -/
def Obligations.FailedReceiveChecksOnlyLog : Prop :=
  ∀ (p : TrunkPort) (chars : List Byte) (s : Machine.State),
    (∀ period, period ≠ s.trunk.period → exec (.frameReception p period chars) s = .next s)
      ∧ (chars.length < 8 ∨ crcGood chars = false →
        exec (.frameReception p s.trunk.period chars) s = .next (s.logError .crcBad (errorPortOf p) .nothing))
      ∧ (∀ kind dst src hop seq len rest,
          chars = [kind, dst, src, hop, seq, len] ++ rest → 8 ≤ chars.length → crcGood chars = true →
          ¬ (dst.toNat ≤ 62 ∧ 1 ≤ src.toNat ∧ src.toNat ≤ 62 ∧ hop.toNat ≤ 31 ∧ len.toNat ≤ 48
              ∧ len.toNat + 8 = chars.length) →
          exec (.frameReception p s.trunk.period chars) s
            = .next (s.logError .malformed (errorPortOf p)
                (.header ⟨kind, dst, src, hop, seq, len⟩)))
      ∧ (∀ f : Frame, f.InForm → chars = f.chars → s.trunk.address = some f.src →
          exec (.frameReception p s.trunk.period chars) s
            = .next (s.logError .loop (errorPortOf p) (.header f.header)))

/-- A received frame that no owner acts on is shown to panel supervision and then forwarded only; a
REPLY addressed to the node is consumed and ignored (R151 to R153), also one of 0 or 1 payload bytes, a
length section 9.6 does not list: no MALFORMED is logged for it (the model's reading, assumption 9). In
repeater mode the frame is forwarded only (R150). -/
def Obligations.FramesForOthersAreForwarded : Prop :=
  ∀ (p : TrunkPort) (f : Frame) (s : Machine.State),
    f.InForm →
      (∀ a, s.trunk.address = some a → f.src ≠ a → f.dst ≠ a →
          (f.dst = 0 → ∀ k, kindOf f.kind = some k → k.isBroadcast = false) →
          exec (.frameReception p s.trunk.period f.chars) s
            = .next ((s.supervise f.src).forwardOnly p f))
      ∧ (∀ a, s.trunk.address = some a → f.src ≠ a → f.dst = a → f.kind = FrameKind.reply.code →
          exec (.frameReception p s.trunk.period f.chars) s = .next (s.supervise f.src))
      ∧ (s.trunk.address = none →
          exec (.frameReception p s.trunk.period f.chars) s = .next (s.forwardOnly p f))

/-- R156: a frame of hop 0 is not forwarded and HOP_EXPIRED is logged; any other leaves by the opposite
port with its hop reduced by one, in the queue the class map gives its kind (NORMAL for an unknown
kind), at once when the transmitter is free and nothing waits (R158); a full queue discards it with
QUEUE_FULL, a DOWN link without an error. R155: a reply has hop 31, the node as source, the request's
source as destination, its seq, and the request's kind code, the status and the body as payload; it
leaves by the port the request arrived on through its NORMAL queue; a full queue discards it with
QUEUE_FULL, a DOWN link without an error. -/
def Obligations.ForwardsAndRepliesTakeTheirPort : Prop :=
  (∀ (p : TrunkPort) (f : Frame) (s : Machine.State),
      let q := otherPort p
      let x := s.port q
      let e : Entry := ⟨{ f with hop := f.hop - 1 }, false⟩
      let urgent := ∃ k, kindOf f.kind = some k ∧ s.node.classMap.getLsbD k.mapBit = true
      let idle := x.flight = none ∧ x.gap = false ∧ x.urgent = [] ∧ x.normal = []
      (f.hop = 0 → s.forwardOnly p f = s.logFrame .hopExpired p f)
        ∧ (f.hop ≠ 0 → x.link = false → s.forwardOnly p f = s)
        ∧ (f.hop ≠ 0 → x.link = true → idle →
            s.forwardOnly p f = s.setPort q { x with flight := some e })
        ∧ (f.hop ≠ 0 → x.link = true → ¬ idle → urgent → x.urgent.length < 4 →
            s.forwardOnly p f = s.setPort q { x with urgent := x.urgent ++ [e] })
        ∧ (f.hop ≠ 0 → x.link = true → ¬ idle → urgent → 4 ≤ x.urgent.length →
            s.forwardOnly p f = s.logFrame .queueFull p f)
        ∧ (f.hop ≠ 0 → x.link = true → ¬ idle → ¬ urgent → x.normal.length < 8 →
            s.forwardOnly p f = s.setPort q { x with normal := x.normal ++ [e] })
        ∧ (f.hop ≠ 0 → x.link = true → ¬ idle → ¬ urgent → 8 ≤ x.normal.length →
            s.forwardOnly p f = s.logFrame .queueFull p f))
    ∧ ∀ (p : TrunkPort) (f : Frame) (a : Nat) (st : Status) (body : List Byte) (s : Machine.State),
        let x := s.port p
        let e : Entry :=
          ⟨⟨0x20, f.src, a, 31, f.seq, f.kind :: BitVec.ofNat 8 st.code :: body⟩, false⟩
        let idle := x.flight = none ∧ x.gap = false ∧ x.urgent = [] ∧ x.normal = []
        (x.link = false → s.reply p f a st body false = s)
          ∧ (x.link = true → idle →
              s.reply p f a st body false = s.setPort p { x with flight := some e })
          ∧ (x.link = true → ¬ idle → x.normal.length < 8 →
              s.reply p f a st body false = s.setPort p { x with normal := x.normal ++ [e] })
          ∧ (x.link = true → ¬ idle → 8 ≤ x.normal.length →
              s.reply p f a st body false = s.logFrame .queueFull p f)

/-- R153: an addressed frame of an unknown kind logs UNKNOWN_KIND with its header and is answered with that
status; any other is forwarded only. A frame with a payload length not allowed for its kind is not acted on
and MALFORMED is logged with its header: addressed to the node it is answered BAD_VALUE, with the body
section 9.6 gives (COLLECT's is open: a free value of at most 46 bytes, assumption 4); a broadcast not
addressed to the node is still forwarded (R152), its two line errors, where it has two, in an order left
open (assumption 5). -/
def Obligations.UnactedFramesAreAnswered : Prop :=
  (∀ (rx : Rx) (kind : Byte) (payload : List Byte) (a : Nat) (s : Machine.State),
      kindOf kind = none → rx.ReceivedBy a s →
        let f := unknownKindFrame rx kind payload
        let s1 := s.supervise rx.src
        (rx.dst = a →
          exec (.unknownKind rx kind payload) s
            = .next ((s1.logFrame .unknownKind rx.port f).reply rx.port f a .unknownKind [] false))
        ∧ (rx.dst ≠ a → exec (.unknownKind rx kind payload) s = .next (s1.forwardOnly rx.port f)))
    ∧ ∀ (p : TrunkPort) (f : Frame) (a : Nat) (k : FrameKind) (s : Machine.State),
        f.InForm → s.trunk.address = some a → f.src ≠ a → kindOf f.kind = some k → k ≠ .reply →
          lengthAllowed k f.payload = false →
          let s1 := s.supervise f.src
          let exec' := exec (.frameReception p s.trunk.period f.chars) s
          let answers := fun (u : Machine.State) (body : List Byte) =>
            exec' = .next ((u.logFrame .malformed p f).reply p f a .badValue body false)
          (f.dst = a →
            (k = .setWrite ∨ k = .setCommit ∨ k = .setDiscard →
              (s.store.staged = none → answers s1 (byte 0 :: be16 0 ++ be32 s.store.generation))
              ∧ ∀ x, s.store.staged = some x →
                  answers s1 (byte 1 :: be16 x.tally ++ be32 s.store.generation))
            ∧ (k = .read → answers s1 (be32 s.store.generation))
            ∧ (k = .supplyClear →
                answers s1 (byte ([SupplyState.ok, .low, .high].idxOf s.supply.state)
                  :: be16 (s.supply.last.getD 0xFFFF)))
            ∧ (k = .collect →
                ∃ body, body.length ≤ 46 ∧ answers (s1.setFreeCount (s.freeCount + 1)) body)
            ∧ (¬ (k = .setWrite ∨ k = .setCommit ∨ k = .setDiscard ∨ k = .read ∨ k = .supplyClear
                  ∨ k = .collect) → answers s1 []))
          ∧ (f.dst ≠ a → f.dst = 0 → k.isBroadcast = true →
              ((s1.forward p f).2 = none →
                exec' = .next ((s1.forward p f).1.logFrame .malformed p f))
              ∧ ∀ e, (s1.forward p f).2 = some e →
                  exec' = .next ((((s1.forward p f).1.setFreeCount (s.freeCount + 1)).logFrame .malformed p
                      f).logFrame e p f)
                  ∨ exec' = .next ((((s1.forward p f).1.setFreeCount (s.freeCount + 1)).logFrame e p
                      f).logFrame .malformed p f))

/-! ## Power, links, transmissions, node reset -/

/-- R150 with the power-on values of every block: straps 1 to 62 give a node with its branch started by
ALL_STOP and its first sample due (assumption 22), 0 and 63 a repeater with a silent branch; a new
listening period (assumption 11). -/
def Obligations.PowerOnSetsEveryBlock : Prop :=
  ∀ (straps : Nat) (rate : LineRate) (contact : Level) (s : Machine.State), straps ≤ 63 →
    ∃ t, exec (.powerOn straps rate contact) s = .next t
      ∧ t.trunk.address = (if straps = 0 ∨ straps = 63 then none else some straps)
      ∧ t.trunk.rate = rate
      ∧ (∀ p, (t.port p).link = false ∧ (t.port p).urgent = [] ∧ (t.port p).normal = []
          ∧ (t.port p).flight = none)
      ∧ t.trunk.pendingReset = false ∧ t.trunk.period = s.trunk.period + 1
      ∧ t.store = ⟨defaultSet, none, 0⟩
      ∧ (∀ z, t.zone.zones.get z = ⟨false, none, false⟩)
      ∧ t.zone.contact = ⟨.inactive, if contact = .active then some s.now else none⟩
      ∧ t.zone.supervision = ⟨false, none⟩
      ∧ t.weather = ⟨false, false, true, 0, none, .stopped, .stopped, none⟩
      ∧ (∀ n, t.channels.get n = Channel.powerOn)
      ∧ t.branch.strangers = [] ∧ t.branch.farewell = [] ∧ t.branch.overflow = false
      ∧ t.branch.pointer = 1 ∧ t.branch.exchange = none
      ∧ (straps = 0 ∨ straps = 63 → t.branch.schedule = .silent ∧ t.branch.sent = none)
      ∧ (¬ (straps = 0 ∨ straps = 63) →
          t.branch.schedule = .starting s.now ∧ t.branch.sent = some ⟨0, .stop, none⟩)
      ∧ t.supply.state = .ok ∧ t.supply.latched = false ∧ t.supply.below = 0 ∧ t.supply.above = 0
      ∧ t.supply.inWindow = 0 ∧ t.supply.last = none
      ∧ t.supply.nextSample = (if straps = 0 ∨ straps = 63 then none else some s.now)
      ∧ t.notice = ⟨[], 0, none, false⟩

/-- R149 and R158, the port's own events: a link going DOWN empties the port's queues and keeps its
frame in flight; a link going UP changes its status alone; a transmission that ends leaves the closing
gap; the transmitter that becomes free takes the URGENT head first. The reply of a pending node reset
among the frames concerned is the case of the node reset; where it is in flight when its link goes DOWN,
the reset waits for the end of the transmission (the model's reading, assumption 33). -/
def Obligations.PortEventsFollowRules : Prop :=
  ∀ (p : TrunkPort) (s : Machine.State),
    let x := s.port p
    (x.holdsReset = false →
        exec (.linkDown p) s = .next (s.setPort p ⟨false, [], [], x.flight, x.gap⟩))
      ∧ (x.holdsReset = true →
          exec (.linkDown p) s
            = .next (s.setPort p ⟨false, [], [], x.flight, x.gap⟩).nodeReset)
      ∧ exec (.linkUp p) s = .next (s.setPort p ⟨true, x.urgent, x.normal, x.flight, x.gap⟩)
      ∧ (∀ f, x.flight = some ⟨f, false⟩ →
          exec (.transmissionEnd p) s
            = .next (s.setPort p ⟨x.link, x.urgent, x.normal, none, true⟩))
      ∧ (x.flight = none → ∀ e rest, x.urgent = e :: rest →
          exec (.transmissionStart p) s
            = .next (s.setPort p ⟨x.link, rest, x.normal, some e, false⟩))
      ∧ (x.flight = none → x.urgent = [] → ∀ e rest, x.normal = e :: rest →
          exec (.transmissionStart p) s
            = .next (s.setPort p ⟨x.link, [], rest, some e, false⟩))
      ∧ (x.flight = none → x.urgent = [] → x.normal = [] →
          exec (.transmissionStart p) s = .next (s.setPort p ⟨x.link, [], [], none, false⟩))

/-- R159, the request: the first NODE_RESET leaves a pending reset that its reply carries; a reply
discarded for a full queue or a DOWN link brings the reset about at once; while a reset is pending a
further request is only answered. Nothing else of the part changes. -/
def Obligations.NodeResetIsAnsweredFirst : Prop :=
  ∀ (rx : Rx) (a : Nat) (s : Machine.State), rx.ReceivedBy a s →
    let f := nodeResetFrame rx
    let s1 := s.supervise rx.src
    let x := s.port rx.port
    let e : Entry := ⟨⟨0x20, rx.src, a, 31, rx.seq, [0x1A, 0]⟩, true⟩
    let idle := x.flight = none ∧ x.gap = false ∧ x.urgent = [] ∧ x.normal = []
    let room := idle ∨ x.normal.length < 8
    (rx.dst = a → s.trunk.pendingReset = true →
        exec (.nodeReset rx) s = .next (s1.reply rx.port f a .accepted [] false))
      ∧ (rx.dst = a → s.trunk.pendingReset = false → x.link = true → room →
          let sent := fun y : Port =>
            s1.setTrunk { (s.trunk.setPort y rx.port) with pendingReset := true }
          (idle → exec (.nodeReset rx) s = .next (sent { x with flight := some e }))
            ∧ (¬ idle → exec (.nodeReset rx) s = .next (sent { x with normal := x.normal ++ [e] })))
      ∧ (rx.dst = a → s.trunk.pendingReset = false → x.link = true → ¬ room →
          exec (.nodeReset rx) s = .next (s1.logFrame .queueFull rx.port f).nodeReset)
      ∧ (rx.dst = a → s.trunk.pendingReset = false → x.link = false →
          exec (.nodeReset rx) s = .next s1.nodeReset)
      ∧ (rx.dst ≠ a → exec (.nodeReset rx) s = .next (s1.forwardOnly rx.port f))

/-- What a node reset leaves in every block when the reply that carries it has been sent, told by the end of
its transmission or by the reset's own row (assumption 14; R22, R43, R60, R68, R72, R101, R125, R135, R146,
R159, R169). A frame on a port whose link is DOWN completes; a reception in progress is abandoned (a new
listening period, assumption 11); the running table waits for slot 0 (assumption 30). The reply may be in
flight on a link that has gone DOWN since (assumption 33). -/
def Obligations.NodeResetSetsEveryBlock : Prop :=
  ∀ (c : Instr) (p : TrunkPort) (f : Frame) (s : Machine.State),
    (s.port p).flight = some ⟨f, true⟩ →
    (c = .transmissionEnd p
      ∨ (c = .nodeResetTakesEffect ∧ (s.port (otherPort p)).flightResets = false)) →
    ∃ t, exec c s = .next t
      ∧ t.trunk.address = s.trunk.address ∧ t.trunk.rate = s.trunk.rate
      ∧ t.trunk.pendingReset = false
      ∧ (∀ p, (t.port p).link = (s.port p).link ∧ (t.port p).urgent = [] ∧ (t.port p).normal = []
          ∧ ((s.port p).link = true → (t.port p).flight = none))
      ∧ (t.port p).flight = none ∧ (t.port p).gap = true
      ∧ (∀ x, (s.port (otherPort p)).link = false → (s.port (otherPort p)).flight = some x →
          (t.port (otherPort p)).flight = some ⟨x.frame, false⟩)
      ∧ t.trunk.period = s.trunk.period + 1
      ∧ t.store = ⟨s.store.active, none, s.store.generation⟩
      ∧ t.zone.zones = s.zone.zones ∧ t.zone.contact = s.zone.contact
      ∧ t.zone.supervision = ⟨false, if 1 ≤ s.store.generation then some s.now else none⟩
      ∧ t.weather = s.weather
      ∧ (∀ n, (t.channels.get n).engine = Engine.powerOn
          ∧ (t.channels.get n).binding = ⟨.unbound, none, none⟩)
      ∧ (∀ n, (s.record n).inUse = true →
          (t.channels.get n).stack
              = ⟨smokeCell s.store.active s.zone.zones (s.record n), none,
                  weatherCell s.store.active.weather.policy s.weather (s.record n), none, none,
                  (s.channels.get n).stack.b⟩
            ∧ (t.channels.get n).result
                = some (compose s.store.active s.weather (s.record n) (t.channels.get n).stack))
      ∧ (∀ n, (s.record n).inUse = false →
          (t.channels.get n).stack = (s.channels.get n).stack
            ∧ (t.channels.get n).result = (s.channels.get n).result)
      ∧ t.branch = ⟨.starting s.now, s.branch.running, none, some ⟨0, .stop, none⟩, 1, [], false, []⟩
      ∧ t.supply = ⟨.ok, false, 0, 0, 0, s.supply.last, s.supply.nextSample⟩
      ∧ t.notice = ⟨[], 0, none, false⟩

/-! ## Zones, contact, panel supervision (chapter 2) -/

/-- R27: a ZONE_ALARM sets its zone to ALARM with the episode positions of the frame and clears
reset_blocked; the S cells of the in-use channels of the zone become what R30 asks, each in-use channel
that this or panel supervision changes is composed once (R18), and nothing else changes but what panel
supervision, the reply or the forwarding do. -/
def Obligations.ZoneAlarmSetsZone : Prop :=
  ∀ (rx : Rx) (z : ZoneNo) (episode : Option Positions) (a : Nat) (s : Machine.State),
    rx.ReceivedBy a s → rx.dst = a ∨ rx.dst = 0 →
      (∀ p ∈ episode, p.exhaust ≤ 1000 ∧ p.inlet ≤ 1000) →
      let s1 := s.supervise rx.src
      ∃ zones channels,
        exec (.zoneAlarm rx z.1 episode) s
          = .next (((s1.setZone { s1.zone with zones := zones }).setChannels channels).passOn rx.port
              (zoneAlarmFrame rx z.1 episode) a)
        ∧ zones.get z = ⟨true, episode, false⟩
        ∧ (∀ y, y ≠ z → zones.get y = s.zone.zones.get y)
        ∧ ∀ n,
              let c := s.channels.get n
              let heard := s.heardStack rx.src c.stack
              if (s.record n).inUse = true then
                channels.get n
                  = ({ c with
                      stack :=
                        if (s.record n).zones.getLsbD z.1 = true then
                          { heard with s := smokeCell s.store.active zones (s.record n) }
                        else heard }).settle s.ctx (s.record n) false c.stack
              else channels.get n = c

/-- R28: a ZONE_RESET returns its zone to NORMAL with the S cells recomputed and each changed channel
composed once, unless the ACTIVE effective
contact holds the zone, where reset_blocked is set and nothing else. -/
def Obligations.ZoneResetObeysContact : Prop :=
  ∀ (rx : Rx) (z : ZoneNo) (a : Nat) (s : Machine.State),
    rx.ReceivedBy a s → rx.dst = a ∨ rx.dst = 0 →
      let s1 := s.supervise rx.src
      let f := zoneResetFrame rx z.1
      (z = s.node.contactZone ∧ s.effective = .active →
        exec (.zoneReset rx z.1) s
          = .next ((s1.setZone
              { s1.zone with
                zones := s1.zone.zones.set z
                  ⟨(s.zone.zones.get z).alarm, (s.zone.zones.get z).episode, true⟩ }).passOn
                rx.port f a))
      ∧ (¬ (z = s.node.contactZone ∧ s.effective = .active) →
          ∃ zones channels,
            exec (.zoneReset rx z.1) s
              = .next (((s1.setZone { s1.zone with zones := zones }).setChannels channels).passOn
                  rx.port f a)
            ∧ zones.get z = ⟨false, none, false⟩
            ∧ (∀ y, y ≠ z → zones.get y = s.zone.zones.get y)
            ∧ ∀ n,
                  let c := s.channels.get n
                  let heard := s.heardStack rx.src c.stack
                  if (s.record n).inUse = true then
                    channels.get n
                      = ({ c with
                          stack :=
                            if (s.record n).zones.getLsbD z.1 = true then
                              { heard with s := smokeCell s.store.active zones (s.record n) }
                            else heard }).settle s.ctx (s.record n) false c.stack
                  else channels.get n = c)

/-- R26 and R63: a zone, group, position or mode out of range is not acted on; FIELD_RANGE is logged,
the addressed frame is answered BAD_VALUE, the broadcast is still forwarded. -/
def Obligations.FieldRangeIsNotActedOn : Prop :=
  ∀ (c : Instr) (p : TrunkPort) (f : Frame) (a : Nat) (s : Machine.State),
    frameOf c = some (p, f) → s.trunk.address = some a → f.src ≠ a →
      ((∃ rx z e, c = .zoneAlarm rx z e
          ∧ (16 ≤ z ∨ ∃ q, e = some q ∧ (1000 < q.exhaust ∨ 1000 < q.inlet)))
        ∨ (∃ rx z, c = .zoneReset rx z ∧ 16 ≤ z)
        ∨ (∃ rx g q m, c = .groupSet rx g q m ∧ (64 ≤ g ∨ (3 ≤ m ∧ m ≠ 255)))
        ∨ (∃ rx g, c = .groupRelease rx g ∧ 64 ≤ g)) →
      let s1 := s.supervise f.src
      (f.dst = a →
        exec c s = .next ((s1.logFrame .fieldRange p f).reply p f a .badValue [] false))
      ∧ (f.dst ≠ a → f.dst = 0 → (s1.forward p f).2 = none →
          exec c s = .next ((s1.forward p f).1.logFrame .fieldRange p f))
      ∧ (f.dst ≠ a → f.dst = 0 → ∀ e, (s1.forward p f).2 = some e →
          exec c s
              = .next (((((s1.forward p f).1.setFreeCount (s.freeCount + 1)).logFrame .fieldRange p
                  f).logFrame e p f))
            ∨ exec c s
              = .next (((((s1.forward p f).1.setFreeCount (s.freeCount + 1)).logFrame e p f).logFrame
                  .fieldRange p f)))

/-- R32, R34, R35: the input starts or abandons a pending change; a pending change held for the deglitch
time is accepted; where that makes the effective contact ACTIVE, contact_zone goes to ALARM without
episode positions and a CONTACT notice is raised, except in repeater mode. -/
def Obligations.ContactIsDeglitched : Prop :=
  ∀ s : Machine.State,
    (∀ level, exec (.contactInputChange level) s
        = .next (s.setZone { s.zone with
            contact := ⟨s.zone.contact.accepted,
              if level = s.zone.contact.accepted then none
              else if s.zone.contact.pendingSince = none then some s.now
              else s.zone.contact.pendingSince⟩ }))
      ∧ ∀ since, s.zone.contact.pendingSince = some since →
          s.node.contactDeglitchMs ≤ s.now - since →
          let level := otherLevel s.zone.contact.accepted
          let contact : Contact := ⟨level, none⟩
          let z := s.node.contactZone
          ((s.node.contactSource = .pin ∧ level = .active ∧ s.repeater = false) →
            ∃ zones channels,
              exec .pendingChangeAccepted s
                = .next (((s.setZone ⟨zones, contact, s.zone.supervision⟩).setChannels
                    channels).raise .contact)
              ∧ zones.get z = ⟨true, none, (s.zone.zones.get z).resetBlocked⟩
              ∧ (∀ y, y ≠ z → zones.get y = s.zone.zones.get y)
              ∧ ∀ n, (if (s.record n).inUse = true ∧ (s.record n).zones.getLsbD z.1 = true then
                    channels.get n
                      = (s.channels.get n).write s.ctx (s.record n) .s
                          (smokeCell s.store.active zones (s.record n))
                  else channels.get n = s.channels.get n))
          ∧ (¬ (s.node.contactSource = .pin ∧ level = .active ∧ s.repeater = false) →
              exec .pendingChangeAccepted s = .next (s.setZone { s.zone with contact := contact }))

/-- R38 to R41: a panel frame restarts the timer in OK (from generation 1 on) and in LOST brings the state
back to OK with every F cell removed, which is composed at once where nothing else acts in its event
(`supervise`) and at the end of the event where its owner acts too (`hear`, R18); the expiry of the timer
makes the state LOST with the F cells of the channels that have a fallback_pos. -/
def Obligations.PanelSupervisionPlacesFallback : Prop :=
  ∀ s : Machine.State,
    (s.zone.supervision.lost = false → 1 ≤ s.store.generation →
        s.supervise s.node.panelAddress
          = s.setZone { s.zone with supervision := ⟨false, some s.now⟩ })
      ∧ (s.zone.supervision.lost = false → s.store.generation = 0 →
          s.supervise s.node.panelAddress = s)
      ∧ (s.zone.supervision.lost = true →
          ∃ channels,
            s.supervise s.node.panelAddress
              = (s.setZone { s.zone with supervision := ⟨false, some s.now⟩ }).setChannels channels
            ∧ ∀ n, (if (s.record n).inUse = true then
                  channels.get n = (s.channels.get n).write s.ctx (s.record n) .f none
                else channels.get n = s.channels.get n))
      ∧ (∀ src, src ≠ s.node.panelAddress → s.supervise src = s)
      ∧ (∀ src, src ≠ s.node.panelAddress ∨ s.zone.supervision.lost = false →
          s.hear src = s.supervise src)
      ∧ (s.zone.supervision.lost = true →
          ∃ channels,
            s.hear s.node.panelAddress
              = (s.setZone { s.zone with supervision := ⟨false, some s.now⟩ }).setChannels channels
            ∧ ∀ n, let c := s.channels.get n
              channels.get n
                = { c with
                    stack :=
                      if (s.record n).inUse = true then { c.stack with f := none } else c.stack })
      ∧ ∀ since, s.zone.supervision = ⟨false, some since⟩ →
          s.node.panelTimeoutMs ≤ s.now - since →
          ∃ channels,
            exec .panelTimeout s
              = .next ((s.setZone { s.zone with supervision := ⟨true, none⟩ }).setChannels channels)
            ∧ ∀ n, (if (s.record n).inUse = true then
                  channels.get n
                    = (s.channels.get n).write s.ctx (s.record n) .f
                        ((s.record n).fallbackPos.map fun v => ⟨v, .supervision, none⟩)
                else channels.get n = s.channels.get n)

/-! ## Weather (chapter 3) -/

/-- R48 to R51: a WEATHER frame from an accepted source makes the station OK, restarts its timer, takes
the speed (at most 600) and the direction (16 and more for unknown), applies rain and storm, and gives
every in-use channel the W cell of R57, composing it once where its stack, or the speed, the direction or
the station state, changed (R18 to R20). A hold that froze with the station resumes first, and ends its
state where it has run out (R49 step 1). A frame from another source changes nothing in the Weather
Unit. The frame is answered or forwarded either way. -/
def Obligations.WeatherFrameIsApplied : Prop :=
  ∀ (rx : Rx) (speed direction rain a : Nat) (s : Machine.State),
    rx.ReceivedBy a s → rx.dst = a ∨ rx.dst = 0 →
      let r := s.store.active.weather
      let s1 := s.supervise rx.src
      let f := weatherFrame rx speed direction rain
      let ends := fun (duration : Nat) (h : HoldTimer) =>
        match h with
        | .frozen e => s.weather.lost && decide (duration ≤ e)
        | _ => false
      let resumed := fun h : HoldTimer =>
        match h with
        | .frozen e => if s.weather.lost then .running s.now e else .frozen e
        | h => h
      let wet := s.weather.wet && !ends r.rainHoldMs s.weather.rainHold
      let storm := s.weather.storm && !ends r.stormHoldMs s.weather.stormHold
      (¬ (r.source = 0 ∨ r.source = rx.src) →
        exec (.weather rx speed direction rain) s = .next (s1.passOn rx.port f a))
      ∧ (r.source = 0 ∨ r.source = rx.src →
          ∃ w channels,
            exec (.weather rx speed direction rain) s
              = .next (((s1.setWeather w).setChannels channels).passOn rx.port f a)
            ∧ w.lost = false ∧ w.stationTimer = some s.now ∧ w.speed = min speed 600
            ∧ w.direction = (if h : direction < 16 then some ⟨direction, h⟩ else none)
            ∧ (rain ≠ 0 → w.wet = true ∧ w.rainHold = .stopped)
            ∧ (rain = 0 → wet = false → w.wet = false)
            ∧ (rain = 0 → wet = true →
                w.wet = true
                  ∧ w.rainHold
                      = (if s.weather.rainHold = .stopped then .running s.now 0
                        else resumed s.weather.rainHold))
            ∧ (storm = false → w.storm = decide (r.stormOn ≤ min speed 600))
            ∧ (storm = false → r.stormOn ≤ min speed 600 → w.stormHold = .stopped)
            ∧ (storm = true →
                w.storm = true
                  ∧ w.stormHold
                      = (if r.stormOff ≤ min speed 600 then .stopped
                        else if s.weather.stormHold = .stopped then .running s.now 0
                        else resumed s.weather.stormHold))
            ∧ ∀ n,
                let c := s.channels.get n
                if (s.record n).inUse = true then
                  channels.get n
                    = ({ c with
                        stack :=
                          { s.heardStack rx.src c.stack with
                            w := weatherCell r.policy w (s.record n) } }).settle
                        { s.ctx with weather := w } (s.record n)
                        (decide (w.speed ≠ s.weather.speed ∨ w.direction ≠ s.weather.direction
                          ∨ w.lost ≠ s.weather.lost)) c.stack
                else channels.get n = c)

/-- R52, R53, R55: a hold that has run out ends its state and stops, the station timer that has run out
makes the station LOST and, under HOLD_LAST, freezes the running holds; the readings are kept and
every in-use channel has the W cell of R57, composed once where its stack or the station state changed. -/
def Obligations.WeatherTimersExpire : Prop :=
  ∀ s : Machine.State,
    let r := s.store.active.weather
    let frozen := fun h : HoldTimer =>
      match h with
      | .running since before => .frozen (before + (s.now - since))
      | h => h
    let written := fun (w : WeatherRuntime) (c : Instr) =>
      ∃ channels, exec c s = .next ((s.setWeather w).setChannels channels)
        ∧ ∀ n,
            let c := s.channels.get n
            if (s.record n).inUse = true then
              channels.get n
                = ({ c with stack := { c.stack with w := weatherCell r.policy w (s.record n) } }).settle
                    { s.ctx with weather := w } (s.record n)
                    (decide (w.lost ≠ s.weather.lost)) c.stack
            else channels.get n = c
    (∀ since before, s.weather.rainHold = .running since before →
        r.rainHoldMs ≤ before + (s.now - since) →
        written { s.weather with wet := false, rainHold := .stopped } .rainHoldExpiry)
      ∧ (∀ since before, s.weather.stormHold = .running since before →
          r.stormHoldMs ≤ before + (s.now - since) →
          written { s.weather with storm := false, stormHold := .stopped } .stormHoldExpiry)
      ∧ (∀ since, s.weather.stationTimer = some since → r.stationTimeoutMs ≤ s.now - since →
          (r.policy = .assumeStormRain →
            written { s.weather with lost := true, stationTimer := none } .stationTimeout)
          ∧ (r.policy = .holdLast →
              written
                { s.weather with
                  lost := true
                  stationTimer := none
                  rainHold := frozen s.weather.rainHold
                  stormHold := frozen s.weather.stormHold } .stationTimeout))

/-- What the producers ask for. R57: the W cell is the smaller applying cap. R30: the S cell is the largest
position of the channel's zones in ALARM, for its role and by the episode positions where present, with the
lowest zone that gives it as origin. R41: the F cell is the fallback position while supervision is
LOST. -/
def Obligations.ProducerCellsFollowRules : Prop :=
  (∀ (policy : TimeoutPolicy) (w : WeatherRuntime) (rec : ChannelRecord),
      let worst := w.lost = true ∧ policy = .assumeStormRain
      let rain := (w.wet = true ∨ worst) ∧ rec.rainExposed = true
      let storm := w.storm = true ∨ worst
      (weatherCell policy w rec = none ↔ ¬ rain ∧ ¬ storm)
        ∧ ∀ cell, weatherCell policy w rec = some cell →
            cell.carried = none
            ∧ (rain → storm → cell.value = min rec.rainCap rec.stormCap)
            ∧ (rain → ¬ storm → cell.value = rec.rainCap)
            ∧ (¬ rain → storm → cell.value = rec.stormCap)
            ∧ (worst → cell.origin = .stationLost)
            ∧ (¬ worst → rain → (storm → rec.rainCap ≤ rec.stormCap) → cell.origin = .rain)
            ∧ (¬ worst → storm → (rain → rec.stormCap < rec.rainCap) → cell.origin = .storm))
    ∧ (∀ (set : ConfigSet) (zones : Table ZoneRuntime 16) (rec : ChannelRecord),
        let asks := fun z : ZoneNo => rec.zones.getLsbD z.1 = true ∧ (zones.get z).alarm = true
        let position := fun z : ZoneNo =>
          match rec.role, (zones.get z).episode with
          | .exhaust, some p => p.exhaust
          | .inlet, some p => p.inlet
          | .exhaust, none => (set.zones.get z).exhaustPos
          | .inlet, none => (set.zones.get z).inletPos
        (smokeCell set zones rec = none ↔ ∀ z, ¬ asks z)
          ∧ ∀ cell, smokeCell set zones rec = some cell →
              ∃ z, asks z ∧ cell = ⟨position z, .zone z, none⟩
                ∧ (∀ y, asks y → position y ≤ position z)
                ∧ ∀ y, asks y → position y = position z → z ≤ y)
      ∧ ∀ rec : ChannelRecord,
          fallbackCell false rec = none
            ∧ (rec.fallbackPos = none → fallbackCell true rec = none)
            ∧ ∀ v, rec.fallbackPos = some v → fallbackCell true rec = some ⟨v, .supervision, none⟩

/-! ## Comfort groups (chapter 4) -/

/-- R64: a GROUP_SET writes the C cell of every in-use member with the position clamped to 1000, the group
as origin and the mode carried; R66: a GROUP_RELEASE removes the C cells of the group's in-use members
whose origin is the group. Each in-use channel that this or panel supervision changes is composed once
(R18). -/
def Obligations.GroupFramesWriteMembers : Prop :=
  (∀ (rx : Rx) (g : GroupNo) (position mode a : Nat) (m : Option Mode) (s : Machine.State),
      rx.ReceivedBy a s → rx.dst = a ∨ rx.dst = 0 →
        ((mode = 0 ∧ m = some .override) ∨ (mode = 1 ∧ m = some .cap)
          ∨ (mode = 2 ∧ m = some .floor) ∨ (mode = 255 ∧ m = none)) →
        let s1 := s.supervise rx.src
        ∃ channels,
          exec (.groupSet rx g.1 position mode) s
            = .next ((s1.setChannels channels).passOn rx.port (groupSetFrame rx g.1 position mode) a)
          ∧ ∀ n,
              let c := s.channels.get n
              let heard := s.heardStack rx.src c.stack
              if (s.record n).inUse = true then
                channels.get n
                  = ({ c with
                      stack :=
                        if (s.store.active.groups.get g).getLsbD n.1 = true then
                          { heard with c := some ⟨min position 1000, .group g, m⟩ }
                        else heard }).settle s.ctx (s.record n) false c.stack
              else channels.get n = c)
    ∧ (∀ (rx : Rx) (g : GroupNo) (a : Nat) (s : Machine.State),
        rx.ReceivedBy a s → rx.dst = a ∨ rx.dst = 0 →
          let s1 := s.supervise rx.src
          ∃ channels,
            exec (.groupRelease rx g.1) s
              = .next ((s1.setChannels channels).passOn rx.port (groupReleaseFrame rx g.1) a)
            ∧ ∀ n,
              let c := s.channels.get n
              let heard := s.heardStack rx.src c.stack
              if (s.record n).inUse = true then
                channels.get n
                  = ({ c with
                      stack :=
                        if (s.store.active.groups.get g).getLsbD n.1 = true
                            ∧ c.stack.c.map Cell.origin = some (Origin.group g) then
                          { heard with c := none }
                        else heard }).settle s.ctx (s.record n) false c.stack
              else channels.get n = c)

/-! ## Configuration sets (chapter 8) -/

/-- R138 and R139: an accepted SET_WRITE opens staging on a copy of the active set where it is CLOSED,
replaces one record of the staged set and counts; nothing else of the part changes. -/
def Obligations.SetWriteStagesRecord : Prop :=
  ∀ (rx : Rx) (t : TableName) (code index a : Nat) (record : List Byte) (set : ConfigSet)
    (s : Machine.State),
    rx.ReceivedBy a s → rx.dst = a → tableOf code = some t → record.length = t.recordLength →
      index < t.count →
      let base := (s.store.staged.map (·.set)).getD s.store.active
      let tally := ((s.store.staged.map (·.tally)).getD 0 + 1) % 65536
      base.write t index record = some set →
      (∀ x ∈ s.store.staged, x.opener = rx.src) →
      exec (.setWrite rx code index record) s
        = .next (((s.supervise rx.src).setStore
            ⟨s.store.active, some ⟨set, rx.src, tally⟩, s.store.generation⟩).reply rx.port
              (setWriteFrame rx code index record) a .accepted
              (byte 1 :: be16 tally ++ be32 s.store.generation) false)

/-- R138, the refusals of a SET_WRITE in their order; R140 and R141, those of a SET_COMMIT, whose reply
names the failing check and item of an invalid set. A refused one changes nothing but for its reply. -/
def Obligations.SetRefusalsInOrder : Prop :=
  (∀ (rx : Rx) (code index a : Nat) (record : List Byte) (s : Machine.State),
      rx.ReceivedBy a s → rx.dst = a →
        let s1 := s.supervise rx.src
        let refused := fun st : Status =>
          exec (.setWrite rx code index record) s
            = .next (s1.reply rx.port (setWriteFrame rx code index record) a st s.stagingBody false)
        let base := (s.store.staged.map (·.set)).getD s.store.active
        (tableOf code = none → refused .badTable)
        ∧ ∀ t, tableOf code = some t → record.length = t.recordLength →
            (t.count ≤ index → refused .badIndex)
            ∧ (index < t.count → base.write t index record = none → refused .badValue)
            ∧ (index < t.count → base.write t index record ≠ none →
                ∀ x, s.store.staged = some x → x.opener ≠ rx.src → refused .stagingOwned))
    ∧ (∀ (rx : Rx) (tally generation a : Nat) (s : Machine.State),
        rx.ReceivedBy a s → rx.dst = a →
          let s1 := s.supervise rx.src
          let refused := fun (st : Status) (body : List Byte) =>
            exec (.setCommit rx tally generation) s
              = .next (s1.reply rx.port (setCommitFrame rx tally generation) a st body false)
          (s.store.staged = none → refused .notOpen s.stagingBody)
          ∧ ∀ x, s.store.staged = some x →
              (x.opener ≠ rx.src → refused .stagingOwned s.stagingBody)
              ∧ (x.opener = rx.src → tally ≠ x.tally → refused .tallyMismatch s.stagingBody)
              ∧ (x.opener = rx.src → tally = x.tally →
                  generation ≠ s.store.generation ∨ 4294967295 ≤ s.store.generation →
                  refused .generationMismatch s.stagingBody)
              ∧ (x.opener = rx.src → tally = x.tally → generation = s.store.generation →
                  s.store.generation < 4294967295 → ∀ k, failure x.set = some k →
                  refused .invalidSet (s.stagingBody ++ [byte k.check] ++ k.item.bytes)))

/-- R142, R21, R42, R67, R72, R99, R100: an accepted SET_COMMIT runs the commit of the staged set on the
state that panel supervision has seen the frame in, as one event with one composition of each channel,
and answers ACCEPTED with the new generation. The staged set is active, the generation one more, staging
CLOSED, and the trunk as it was. Each channel in use under the new set has the cells its producers ask
for and their composition; UNBOUND with the engine of power-on where its binding fields change, its
engine carried across under R99 where it is bound (and tested once more where the commit brings the
supply back to OK), as it was where it is LOST or UNBOUND. A channel not in use holds nothing. -/
def Obligations.SetCommitTakesUpStagedSet : Prop :=
  ∀ (rx : Rx) (a : Nat) (x : Staged) (s : Machine.State),
    rx.ReceivedBy a s → rx.dst = a → s.store.staged = some x → x.opener = rx.src →
      s.store.generation < 4294967295 → failure x.set = none →
      let t := (s.hear rx.src).commit x.set
      let changed := fun n : ChannelNo =>
        (s.record n).inUse ≠ (x.set.channels.get n).inUse
          ∨ (s.record n).station ≠ (x.set.channels.get n).station
          ∨ (s.record n).serial ≠ (x.set.channels.get n).serial
      exec (.setCommit rx x.tally s.store.generation) s
          = .next (t.reply rx.port (setCommitFrame rx x.tally s.store.generation) a .accepted
              (byte 0 :: be16 0 ++ be32 (s.store.generation + 1)) false)
        ∧ t.store = ⟨x.set, none, s.store.generation + 1⟩
        ∧ t.trunk = s.trunk
        ∧ (∀ n, (x.set.channels.get n).inUse = true →
            let r := x.set.channels.get n
            let c := s.channels.get n
            let d := t.channels.get n
            let comfort :=
              match c.stack.c with
              | some ⟨v, .group g, m⟩ =>
                if (s.record n).inUse = true ∧ (x.set.groups.get g).getLsbD n.1 = true then
                  some (⟨v, .group g, m⟩ : Cell)
                else none
              | _ => none
            d.stack
                = ⟨smokeCell x.set t.zone.zones r, fallbackCell t.zone.supervision.lost r,
                    weatherCell x.set.weather.policy t.weather r,
                    if changed n then none else c.stack.m, comfort,
                    some ⟨r.restPos, .rest, none⟩⟩
              ∧ ∃ after, after = compose x.set t.weather r d.stack ∧ d.result = some after
                ∧ (changed n →
                    d.binding = ⟨.unbound, none, none⟩
                      ∧ d.engine
                          = ⟨.unbound, none, none, 0, none, false, none, none, none, none,
                              ⟨true, true, true, true⟩, none, none⟩)
                ∧ (¬ changed n →
                    d.binding = c.binding
                      ∧ (c.engine.state = .unbound ∨ c.engine.state = .lost → d.engine = c.engine)
                      ∧ (c.engine.state ≠ .unbound → c.engine.state ≠ .lost →
                          let e := c.engine.commit
                            ⟨x.set, t.weather, decide (s.supply.state = .ok), s.now⟩ (s.record n) r
                            c.result after
                          let returned := s.supply.state ≠ .ok ∧ t.supply.state = .ok
                          (returned → e.state = .held →
                              d.engine
                                = e.moveTest ⟨x.set, t.weather, true, s.now⟩ r after.target)
                            ∧ (¬ (returned ∧ e.state = .held) → d.engine = e))))
        ∧ (∀ n, (x.set.channels.get n).inUse = false →
            (t.channels.get n).stack = ⟨none, none, none, none, none, none⟩
              ∧ (t.channels.get n).result = none
              ∧ (changed n →
                  (t.channels.get n).binding = ⟨.unbound, none, none⟩
                    ∧ (t.channels.get n).engine
                        = ⟨.unbound, none, none, 0, none, false, none, none, none, none,
                            ⟨true, true, true, true⟩, none, none⟩)
              ∧ (¬ changed n → (t.channels.get n).binding = (s.channels.get n).binding
                  ∧ ((s.channels.get n).engine.state = .unbound →
                      (t.channels.get n).engine = (s.channels.get n).engine)))

/-- What the commit of a set does in the other units. R33 and R36: the contact under the new deglitch time,
source and zone; R38 and R40: the supervision timer restarts in OK, and LOST stays. R59: the weather's
timers under the new durations and policy, the readings kept. R106, R110, R121, R122, R124: the exchange
of a channel whose binding fields change counts no more, the Stranger List loses what the set accepts,
the farewell list takes the old stations of the channels unbound from BOUND, in channel order
(assumption 15), and loses the claimed ones, and the schedule, running table, pointer and overflow flag
are kept. R134: the counts, the flag and the return to OK. R169, R36, R133: the notices, and ATTENTION
under the new mask. -/
def Obligations.SetCommitChangesUnits : Prop :=
  ∀ (new : ConfigSet) (s : Machine.State),
    let t := s.commit new
    let z := new.node.contactZone
    let rises := s.effective = .inactive ∧ t.effective = .active
    let moves := s.effective = .active ∧ t.effective = .active ∧ s.node.contactZone ≠ z
    let changed := fun n : ChannelNo =>
      (s.record n).inUse ≠ (new.channels.get n).inUse
        ∨ (s.record n).station ≠ (new.channels.get n).station
        ∨ (s.record n).serial ≠ (new.channels.get n).serial
    let claimedBy := fun (st : Nat) (n : ChannelNo) =>
      (new.channels.get n).inUse = true ∧ (new.channels.get n).station = st
    let limits := s.node.supplyMin ≠ new.node.supplyMin ∨ s.node.supplyMax ≠ new.node.supplyMax
    let latched := s.supply.latched
      && !decide (new.node.supplyMinMode = .auto ∧ new.node.supplyMaxMode = .auto)
    let back := s.supply.state ≠ .ok ∧ latched = false ∧ ¬ limits ∧ s.supply.inWindow = 10
    (∀ since, s.zone.contact.pendingSince = some since →
        s.node.contactDeglitchMs ≠ new.node.contactDeglitchMs →
        new.node.contactDeglitchMs ≤ s.now - since →
        t.zone.contact = ⟨otherLevel s.zone.contact.accepted, none⟩)
      ∧ (s.zone.contact.pendingSince = none
            ∨ s.node.contactDeglitchMs = new.node.contactDeglitchMs
            ∨ (∃ since, s.zone.contact.pendingSince = some since
                ∧ s.now - since < new.node.contactDeglitchMs) →
          t.zone.contact = s.zone.contact)
      ∧ (rises ∨ moves →
          t.zone.zones.get z = ⟨true, none, (s.zone.zones.get z).resetBlocked⟩)
      ∧ (¬ (rises ∨ moves) → t.zone.zones.get z = s.zone.zones.get z)
      ∧ (∀ y, y ≠ z → t.zone.zones.get y = s.zone.zones.get y)
      ∧ t.zone.supervision
          = (if s.zone.supervision.lost = true then s.zone.supervision else ⟨false, some s.now⟩)
      ∧ (s.WeatherLaw →
          let w := s.weather
          let r := new.weather
          let silent := ∃ since, w.stationTimer = some since ∧ r.stationTimeoutMs ≤ s.now - since
          let carried := fun (duration : Nat) (on : Bool) (h : HoldTimer) =>
            match h with
            | .stopped => (on, h)
            | .running since before =>
              if duration ≤ before + (s.now - since) then (false, .stopped)
              else if t.weather.lost = true ∧ r.policy = .holdLast then
                (on, .frozen (before + (s.now - since)))
              else (on, h)
            | .frozen elapsed =>
              if r.policy = .holdLast then (on, h)
              else if duration ≤ elapsed then (false, .stopped)
              else (on, .running s.now elapsed)
          t.weather.speed = w.speed ∧ t.weather.direction = w.direction
            ∧ (t.weather.lost = true ↔ w.lost = true ∨ silent)
            ∧ (silent → t.weather.stationTimer = none)
            ∧ (¬ silent → t.weather.stationTimer = w.stationTimer)
            ∧ (t.weather.wet, t.weather.rainHold) = carried r.rainHoldMs w.wet w.rainHold
            ∧ (t.weather.storm, t.weather.stormHold) = carried r.stormHoldMs w.storm w.stormHold)
      ∧ t.branch.schedule = s.branch.schedule ∧ t.branch.running = s.branch.running
      ∧ t.branch.sent = s.branch.sent ∧ t.branch.pointer = s.branch.pointer
      ∧ t.branch.overflow = s.branch.overflow
      ∧ (∀ x, s.branch.exchange = some x →
          (∀ n, x.kind = .channel n true → changed n →
              t.branch.exchange = some ⟨.channel n false, x.poll, x.start⟩)
            ∧ ((∀ n, x.kind = .channel n true → ¬ changed n) → t.branch.exchange = some x))
      ∧ (s.branch.exchange = none → t.branch.exchange = none)
      ∧ t.branch.strangers.Sublist s.branch.strangers
      ∧ (∀ y, y ∈ t.branch.strangers ↔ y ∈ s.branch.strangers
          ∧ ¬ ∃ n, claimedBy y.station n
              ∧ ∀ k, (new.channels.get n).serial = some k → k = y.serial)
      ∧ (∀ noted : List ChannelNo, noted.Pairwise (· < ·) →
          (∀ n, n ∈ noted ↔ changed n ∧ (s.channels.get n).binding.status = .bound) →
          ∃ list,
            list = (noted.map fun n => (s.record n).station).foldl
              (fun l st => if st ∈ l ∨ 16 ≤ l.length then l else l ++ [st]) s.branch.farewell
            ∧ t.branch.farewell.Sublist list
            ∧ ∀ st, t.branch.farewell.count st
                = if ∃ n, claimedBy st n then 0 else list.count st)
      ∧ (back → t.supply = ⟨.ok, false, 0, 0, 0, s.supply.last, s.supply.nextSample⟩)
      ∧ (¬ back → limits →
          t.supply
            = ⟨s.supply.state, latched, 0, 0, 0, s.supply.last, s.supply.nextSample⟩)
      ∧ (¬ back → ¬ limits →
          t.supply
            = ⟨s.supply.state, latched, s.supply.below, s.supply.above, s.supply.inWindow,
                s.supply.last, s.supply.nextSample⟩)
      ∧ t.notice.flags = s.notice.flags ∧ t.notice.firstError = s.notice.firstError
      ∧ (t.notice.attention = true ↔
          ∃ y ∈ t.notice.notices, new.node.noticeMask.getLsbD y.kind.bit = false)
      ∧ (s.NoticeLaw → ∀ y, y ∈ t.notice.notices ↔
          (rises ∧ y = .contact) ∨ (back ∧ y = .supply .ok)
            ∨ (y ∈ s.notice.notices ∧ ¬ (back ∧ y.kind = .supply)))

/-- R99 in its order: the engine of a bound channel whose binding survives a commit. A dwell or wait that
the new length finds run out is ended and the channel tested once, as one in IDLE is (assumption 16); a
detector removed loses its run or reference, one added starts armed; a wait at or above a lowered limit
latches unless S decides; S arriving wakes a LATCHED channel (R92); a MOVING channel whose target, stroke
or deadband changed is judged under R81. -/
def Obligations.SurvivingEngineFollowsCommit : Prop :=
  ∀ (ctx : Ctx) (old rec : ChannelRecord) (before after : Result) (e : Engine),
    let t := e.commit ctx old rec (some before) after
    let keeps := fun d : Detector => rec.detectors.get d = true ∧ old.detectors.get d = true
    let arms := fun d : Detector =>
      e.armed.get d || (rec.detectors.get d && !old.detectors.get d)
    let taken : Engine :=
      { e with
        overcurrentRun := if keeps .overcurrent then e.overcurrentRun else none
        noLoadRun := if keeps .noLoad then e.noLoadRun else none
        reference := if keeps .noProgress then e.reference else none
        armed := ⟨arms .overcurrent, arms .noProgress, arms .noLoad, arms .driveFlag⟩ }
    let atRest : Engine :=
      { e with
        direction := none
        timer := none
        overcurrentRun := none
        noLoadRun := none
        reference := none
        armed := ⟨true, true, true, true⟩ }
    let runOut :=
      (e.state = .dwell ∧ ∃ since, e.timer = some (.dwell since)
          ∧ rec.reversalDwellMs ≤ ctx.now - since)
        ∨ (e.state = .retryWait ∧ ∃ since, e.timer = some (.retry since)
            ∧ rec.retryMs ≤ ctx.now - since)
    let limit := after.layer ≠ .s ∧ 1 ≤ rec.retryLimit ∧ rec.retryLimit ≤ e.retryCount
    let wakes := after.layer = .s ∧ before.layer ≠ .s
    let same := after.target = before.target ∧ old.strokeMm = rec.strokeMm
      ∧ old.deadband = rec.deadband
    (e.state = .idle ∨ runOut → t = e.moveTest ctx rec after.target)
      ∧ (e.state = .moving → same → t = taken)
      ∧ (e.state = .moving → ¬ same → t = taken.retarget ctx rec after.target)
      ∧ (e.state = .dwell → ¬ runOut → t = taken)
      ∧ (e.state = .retryWait → ¬ runOut → ¬ limit → t = taken)
      ∧ (e.state = .retryWait → ¬ runOut → limit → t = { atRest with state := .latched })
      ∧ (e.state = .latched → ¬ wakes → t = taken)
      ∧ (e.state = .latched → wakes →
          t = { atRest with state := .retryWait, timer := some (.retry ctx.now) })
      ∧ (e.state = .held → t = taken)

/-- R141: a set is valid exactly where V1 to V7 hold; otherwise the first that fails is named, with its
item. -/
def Obligations.ValidationNamesFirstFailure : Prop :=
  ∀ set : ConfigSet,
    let priority := fun l : Layer => (set.layers.get l).priority
    let source := fun l : Layer => (set.layers.get l).source
    let used := fun n : ChannelNo => (set.channels.get n).inUse = true
    let v1 := priority .b = 0 ∧ ∀ x y, x ≠ y → priority x ≠ priority y
    let repeats := fun l : Layer => ∃ x : Layer, x.index < l.index ∧ priority x = priority l
    let wrong := fun l : Layer =>
      (source l = .cell ∧ l ≠ .c) ∨ (source l = .channel ∧ l ≠ .s)
    let v2 := ∀ l, ¬ wrong l
    let shares := fun n : ChannelNo => used n ∧ ∃ m, m < n ∧ used m
      ∧ ((set.channels.get m).station = (set.channels.get n).station
          ∨ ∃ y, (set.channels.get m).serial = some y ∧ (set.channels.get n).serial = some y)
    let v3 := ∀ n, ¬ shares n
    let breaks := fun n : ChannelNo => used n
      ∧ ¬ ((set.channels.get n).travelMin ≤ (set.channels.get n).travelMax
          ∧ (set.channels.get n).noloadMa < (set.channels.get n).stallMa)
    let v4 := ∀ n, ¬ breaks n
    let spare := fun k : Fin 24 => ∃ n, set.cycle.get k = .channel n ∧ ¬ used n
    let unnamed := fun n : ChannelNo => used n ∧ ∀ k, set.cycle.get k ≠ .channel n
    let v5 := (∀ k, ¬ spare k) ∧ (∀ n, ¬ unnamed n) ∧ ∃ k, set.cycle.get k = .discover
    let v6 := set.weather.stormOff ≤ set.weather.stormOn
    let v7 := set.node.supplyMin < set.node.supplyMax
    (failure set = none ↔ v1 ∧ v2 ∧ v3 ∧ v4 ∧ v5 ∧ v6 ∧ v7)
      ∧ (priority .b ≠ 0 → failure set = some ⟨1, .layer .b⟩)
      ∧ (priority .b = 0 → ∀ l, repeats l → (∀ x : Layer, x.index < l.index → ¬ repeats x) →
          failure set = some ⟨1, .layer l⟩)
      ∧ (v1 → ∀ l, wrong l → (∀ x : Layer, x.index < l.index → ¬ wrong x) →
          failure set = some ⟨2, .layer l⟩)
      ∧ (v1 → v2 → ∀ n, shares n → (∀ m, m < n → ¬ shares m) → failure set = some ⟨3, .channel n⟩)
      ∧ (v1 → v2 → v3 → ∀ n, breaks n → (∀ m, m < n → ¬ breaks m) →
          failure set = some ⟨4, .channel n⟩)
      ∧ (v1 → v2 → v3 → v4 →
          (∀ k, spare k → (∀ j, j < k → ¬ spare j) → failure set = some ⟨5, .slot k⟩)
          ∧ ((∀ k, ¬ spare k) → ∀ n, unnamed n → (∀ m, m < n → ¬ unnamed m) →
              failure set = some ⟨5, .channel n⟩)
          ∧ ((∀ k, ¬ spare k) → (∀ n, ¬ unnamed n) → (∀ k, set.cycle.get k ≠ .discover) →
              failure set = some ⟨5, .none⟩))
      ∧ (v1 → v2 → v3 → v4 → v5 → ¬ v6 → failure set = some ⟨6, .none⟩)
      ∧ (v1 → v2 → v3 → v4 → v5 → v6 → ¬ v7 → failure set = some ⟨7, .none⟩)

/-- R143: a SET_DISCARD from any source closes staging and is answered ACCEPTED. -/
def Obligations.SetDiscardClosesStaging : Prop :=
  ∀ (rx : Rx) (a : Nat) (s : Machine.State), rx.ReceivedBy a s → rx.dst = a →
    exec (.setDiscard rx) s
      = .next (((s.supervise rx.src).setStore
          ⟨s.store.active, none, s.store.generation⟩).reply rx.port (setDiscardFrame rx) a .accepted
            (byte 0 :: be16 0 ++ be32 s.store.generation) false)

/-- R144: a READ changes nothing; its tests in their order, and what an accepted one returns. -/
def Obligations.ReadReturnsRecord : Prop :=
  ∀ (rx : Rx) (table index copy a : Nat) (s : Machine.State),
    rx.ReceivedBy a s → rx.dst = a →
      let answers := fun (st : Status) (body : List Byte) =>
        exec (.read rx table index copy) s
          = .next ((s.supervise rx.src).reply rx.port (readFrame rx table index copy) a st body false)
      let generation := be32 s.store.generation
      (table ≠ 8 → tableOf table = none → answers .badTable generation)
      ∧ (table = 8 → 8 ≤ index → answers .badIndex generation)
      ∧ (table = 8 → index < 8 → copy ≠ 0 → answers .badValue generation)
      ∧ (table = 8 → index < 8 → copy = 0 → ∀ e, s.branch.strangers[index]? = some e →
          answers .accepted
            (generation
              ++ [byte s.branch.strangers.length, byte ((if s.branch.overflow then 1 else 0) + 2),
                byte e.station] ++ be48 e.serial.toNat))
      ∧ (table = 8 → index < 8 → copy = 0 → s.branch.strangers[index]? = none →
          answers .accepted
            (generation
              ++ [byte s.branch.strangers.length, byte (if s.branch.overflow then 1 else 0), 0]
              ++ [0, 0, 0, 0, 0, 0]))
      ∧ ∀ t, tableOf table = some t →
          (t.count ≤ index → answers .badIndex generation)
          ∧ (index < t.count → copy = 0 →
              answers .accepted (generation ++ s.store.active.recordBytes t index))
          ∧ (index < t.count → copy = 1 → s.store.staged = none → answers .notOpen generation)
          ∧ (index < t.count → copy = 1 → ∀ x, s.store.staged = some x →
              answers .accepted (be16 x.tally ++ x.set.recordBytes t index))
          ∧ (index < t.count → 2 ≤ copy → answers .badValue generation)

/-! ## Notices, queries, the line error log (chapter 10) -/

/-- R161 and R164: raising a notice leaves exactly one record of its kind and channel, the one raised,
and every other record as it was; a record of an unmasked kind asserts ATTENTION. -/
def Obligations.RaiseKeepsOneRecordPerKind : Prop :=
  ∀ (x : Notice) (s : Machine.State), s.NoticeLaw →
    (∀ y, y ∈ (s.raise x).notice.notices ↔
        y = x ∨ (y ∈ s.notice.notices ∧ ¬ (y.kind = x.kind ∧ y.channel = x.channel)))
      ∧ (s.node.noticeMask.getLsbD x.kind.bit = false → (s.raise x).notice.attention = true)

/-- R166 and R167: a line error sets its flag and no other; unmasked, it is captured where no first-error
record is held and raises LINE_MAJOR or LINE_MINOR with its kind; masked, it does nothing more. -/
def Obligations.LineErrorIsLogged : Prop :=
  ∀ (k : ErrorKind) (port : ErrorPort) (c : Captured) (s : Machine.State), s.repeater = false →
    let u := (s.logError k port c).notice
    (∀ j : ErrorKind, u.flags.getLsbD j.bit = (decide (j = k) || s.notice.flags.getLsbD j.bit))
      ∧ (s.node.errorMask.getLsbD k.bit = true →
          u.notices = s.notice.notices ∧ u.firstError = s.notice.firstError
            ∧ u.attention = s.notice.attention)
      ∧ (s.node.errorMask.getLsbD k.bit = false →
          u.firstError
              = (if s.notice.firstError = none then some ⟨k, port, c⟩ else s.notice.firstError)
            ∧ (if s.node.errorSeverity.getLsbD k.bit then .lineMajor k else .lineMinor k)
                ∈ u.notices)

/-- R162 and R163: COLLECT hands out the first offerable record, which leaves the set, and answers NONE
when there is none. First is the record whose group stands first under notice_order, within the group by
the order of R161's table, and within the kind by the channel. -/
def Obligations.CollectTakesFirstOfferable : Prop :=
  ∀ (rx : Rx) (a : Nat) (s : Machine.State), rx.ReceivedBy a s → rx.dst = a → s.NoticeLaw →
    let s1 := s.supervise rx.src
    let answers := fun (body : List Byte) (u : NoticeUnit) =>
      exec (.collect rx) s
        = .next ((s1.setNotice u).reply rx.port (collectFrame rx) a .accepted body false)
    let orders : List (List NoticeGroup) :=
      [[.safety, .motion, .line], [.safety, .line, .motion], [.motion, .safety, .line],
        [.motion, .line, .safety], [.line, .safety, .motion], [.line, .motion, .safety]]
    let detail := fun x : Notice =>
      match x with
      | .supply state => [SupplyState.ok, .low, .high].idxOf state
      | .fault _ d => [Detector.overcurrent, .noProgress, .noLoad, .driveFlag].idxOf d
      | .reached _ target => target
      | .stranger station => station
      | .lineMajor k => k.bit
      | .lineMinor k => k.bit
      | _ => 0
    ((∀ x ∈ s.notice.notices, offerable s.node x = false) →
        answers [0xFF, 0xFF, 0, 0] s.notice)
      ∧ ((∃ x ∈ s.notice.notices, offerable s.node x = true) →
          ∃ x u, x ∈ s.notice.notices ∧ offerable s.node x = true
            ∧ answers
                ([byte x.kind.bit, match x.channel with | some n => byte n.1 | none => 0xFF]
                  ++ be16 (detail x)) u
            ∧ (∀ y, y ∈ u.notices ↔ y ∈ s.notice.notices ∧ y ≠ x)
            ∧ u.flags = s.notice.flags ∧ u.firstError = s.notice.firstError
            ∧ u.attention = u.notices.any (offerable s.node)
            ∧ ∀ order, orders[s.node.noticeOrder]? = some order →
                ∀ y ∈ s.notice.notices, offerable s.node y = true →
                  order.idxOf x.kind.group < order.idxOf y.kind.group
                    ∨ (x.kind.group = y.kind.group ∧ x.place ≤ y.place))

/-- R165 with section 9.6: a QUERY changes nothing; its refusals, and the fields of the bodies it returns,
of the state as panel supervision leaves it (the model's choice for a frame of the panel while
supervision is LOST, assumption 31). -/
def Obligations.QueryReportsState : Prop :=
  ∀ (rx : Rx) (subject index a : Nat) (s : Machine.State), rx.ReceivedBy a s → rx.dst = a →
    let s1 := s.supervise rx.src
    let answers := fun (st : Status) (body : List Byte) =>
      exec (.query rx subject index) s
        = .next (s1.reply rx.port (queryFrame rx subject index) a st body false)
    let bit := fun (b : Bool) (n : Nat) => if b = true then n else 0
    let cell := fun c : Option Cell =>
      match c with
      | none => [(0 : Byte), 0, 0, 0, 0]
      | some c =>
        [1, match c.carried with
            | some m => byte ([Mode.override, .cap, .floor].idxOf m)
            | none => 0xFF]
          ++ be16 c.value
          ++ [match c.origin with
              | .zone z => byte z.1
              | .group g => byte g.1
              | .storm => 1
              | .stationLost => 2
              | _ => 0]
    let channel := fun n : ChannelNo =>
      let c := s1.channels.get n
      let e := c.engine
      let stroke := (s.record n).strokeMm
      let derived :=
        if e.state = .latched then Lamp.blink
        else
          match c.result with
          | some r => if r.layer = .s ∨ r.layer = .f then Lamp.on else Lamp.off
          | none => Lamp.off
      byte ([EngineState.unbound, .idle, .moving, .dwell, .retryWait, .latched, .held, .lost].idxOf
            e.state)
          :: (match c.result with
              | some r =>
                be16 r.target
                  ++ [byte ([Layer.s, .f, .w, .m, .c, .b].idxOf r.layer),
                    byte ([WindClass.windward, .cross, .leeward, .neutral].idxOf r.wind),
                    byte (bit r.trimmed 1 + bit r.derated 2 + bit r.clamped 4)]
              | none => [0xFF, 0xFF, 0xFF, 0xFF, 0x80])
        ++ (match e.position with
            | some mm => be16 (min 1000 ((mm * 1000 + stroke / 2) / stroke))
            | none => [0xFF, 0xFF])
        ++ [byte e.retryCount,
          match e.lastFault with
          | some d => byte ([Detector.overcurrent, .noProgress, .noLoad, .driveFlag].idxOf d)
          | none => 0xFF,
          byte ([Lamp.off, .on, .blink].idxOf (e.lampOverride.getD derived))]
        ++ cell c.stack.s ++ cell c.stack.f ++ cell c.stack.w ++ cell c.stack.m ++ cell c.stack.c
        ++ cell c.stack.b
    let zone := fun z : ZoneNo =>
      let r := s1.zone.zones.get z
      byte (bit r.alarm 1 + bit r.resetBlocked 2 + bit r.episode.isSome 4)
        :: (match r.episode with
            | some p => be16 p.exhaust ++ be16 p.inlet
            | none => [0, 0, 0, 0])
    let w := s1.weather
    let condition := fun h : HoldTimer =>
      match h with
      | .stopped => 0
      | .running _ _ => 1
      | .frozen _ => 2
    let left := fun (duration : Nat) (h : HoldTimer) =>
      match h with
      | .stopped => 0
      | .running since before => duration - (before + (s.now - since))
      | .frozen elapsed => duration - elapsed
    let contact :=
      match s.node.contactSource with
      | .pin => decide (s.zone.contact.accepted = .active)
      | .forcedOn => true
      | .forcedOff => false
    let node :=
      be32 s.store.generation
        ++ (match s.store.staged with
            | some x => [1, byte x.opener] ++ be16 x.tally
            | none => [(0 : Byte), 0, 0, 0])
        ++ [byte ([SupplyState.ok, .low, .high].idxOf s.supply.state + bit s.supply.latched 4)]
        ++ (match s.supply.last with
            | some v => be16 v
            | none => [0xFF, 0xFF])
        ++ [byte (bit w.wet 1 + bit w.storm 2 + bit w.lost 4 + bit s1.zone.supervision.lost 8
            + bit contact 16 + bit s.trunk.up.link 32 + bit s.trunk.down.link 64)]
        ++ be16 w.speed
        ++ [match w.direction with | some d => byte d.1 | none => 16]
        ++ [byte (condition w.rainHold + 4 * condition w.stormHold + bit w.stationTimer.isSome 16)]
        ++ be32 (left s.store.active.weather.rainHoldMs w.rainHold)
        ++ be32 (left s.store.active.weather.stormHoldMs w.stormHold)
        ++ be32 (match w.stationTimer with
            | some since => s.store.active.weather.stationTimeoutMs - (s.now - since)
            | none => 0)
        ++ [byte (s.branch.strangers.length + bit s.branch.overflow 128), s.notice.flags]
        ++ (match s.notice.firstError with
            | none => [(0 : Byte), 0, 0, 0, 0, 0, 0]
            | some x =>
              let code := 16 * [ErrorPort.up, .down, .branch].idxOf x.port
                + [ErrorKind.crcBad, .malformed, .loop, .hopExpired, .queueFull, .fieldRange,
                    .unknownKind, .branchCrc].idxOf x.kind
              match x.captured with
              | .header h => byte (192 + code) :: [h.kind, h.dst, h.src, h.hop, h.seq, h.len]
              | .station st => byte (128 + code) :: [byte st, 0, 0, 0, 0, 0]
              | .nothing => byte (128 + code) :: [0, 0, 0, 0, 0, 0])
    (subject = 0 → index = 0 → answers .accepted node ∧ node.length = 37)
      ∧ (subject = 0 → index ≠ 0 → answers .badIndex [])
      ∧ (subject = 1 → ∀ h : index < 16,
          answers .accepted (channel ⟨index, h⟩) ∧ (channel ⟨index, h⟩).length = 41)
      ∧ (subject = 2 → ∀ h : index < 16,
          answers .accepted (zone ⟨index, h⟩) ∧ (zone ⟨index, h⟩).length = 5)
      ∧ (subject = 1 ∨ subject = 2 → 16 ≤ index → answers .badIndex [])
      ∧ (3 ≤ subject → answers .badValue [])

/-- R168: an ERROR_CLEAR clears the flags, the first-error record and the overflow flag, and leaves the
pending notices and the Stranger List's entries. -/
def Obligations.ErrorClearClearsLog : Prop :=
  ∀ (rx : Rx) (a : Nat) (s : Machine.State), rx.ReceivedBy a s → rx.dst = a →
    exec (.errorClear rx) s
      = .next ((((s.supervise rx.src).setNotice
          ⟨s.notice.notices, 0, none, s.notice.attention⟩).setBranch
            { s.branch with overflow := false }).reply rx.port (errorClearFrame rx) a .accepted []
              false)

/-! ## Composition (chapter 1) -/

/-- R8: the effective mode of a cell by its layer's mode source. R11: what a cell of a mode does to the
running value and the deciding layer. R10: the fold starts from the B cell and takes the present cells of
the five other layers in ascending order of their priorities, each by its effective mode; with the
priorities distinct there is one such order. R12: the deciding layer is B or a layer whose cell is
present, and the value it leaves is that cell's. -/
def Obligations.FoldTakesLayersByPriority : Prop :=
  (∀ (t : LayerTable) (smokeMode : Mode) (l : Layer) (cell : Cell),
      let r := t.get l
      (r.source = .layer → effectiveMode t smokeMode l cell = r.mode)
        ∧ (r.source = .cell → cell.carried = none → effectiveMode t smokeMode l cell = r.mode)
        ∧ (r.source = .cell → ∀ m, cell.carried = some m → effectiveMode t smokeMode l cell = m)
        ∧ (r.source = .channel → effectiveMode t smokeMode l cell = smokeMode))
    ∧ (∀ (l : Layer) (cell : Cell) (r : Running),
        actOn .override l cell r = ⟨cell.value, l⟩
          ∧ (cell.value < r.value → actOn .cap l cell r = ⟨cell.value, l⟩)
          ∧ (r.value ≤ cell.value → actOn .cap l cell r = r)
          ∧ (r.value < cell.value → actOn .floor l cell r = ⟨cell.value, l⟩)
          ∧ (cell.value ≤ r.value → actOn .floor l cell r = r))
    ∧ (∀ (t : LayerTable) (rec : ChannelRecord) (st : Stack) (b : Cell) (order : List Layer),
        st.b = some b → order.Perm [.s, .f, .w, .m, .c] →
        order.Pairwise (fun x y => (t.get x).priority < (t.get y).priority) →
          foldCells t rec st
            = order.foldl
                (fun r l =>
                  match st.get l with
                  | some cell => actOn (effectiveMode t rec.smokeMode l cell) l cell r
                  | none => r) ⟨b.value, .b⟩)
    ∧ (∀ t : LayerTable, failsV1 t = none →
        ∃ order : List Layer, order.Perm [.s, .f, .w, .m, .c]
          ∧ order.Pairwise fun x y => (t.get x).priority < (t.get y).priority)
    ∧ ∀ (t : LayerTable) (rec : ChannelRecord) (st : Stack), st.b = some (baseCell rec) →
        ∃ cell, st.get (foldCells t rec st).layer = some cell
          ∧ (foldCells t rec st).value = cell.value

/-- R18 to R20, R79: an event that changed an in-use channel's stack from `old`, or (`wind`) the speed, the
direction or the station state, composes the channel once and hands the result over once, against the
result recorded before the event; any other event leaves it. The deciding layer's rules come first (R91,
R92: S arriving at a LATCHED channel makes it wait for a retry, S leaving a waiting one whose retry count
has reached its limit latches it), then a changed target runs the move test in IDLE and retargets in
MOVING; nothing else of the engine changes. A channel not in use keeps nothing (R2). -/
def Obligations.SettledChannelHandsOver : Prop :=
  (∀ (ctx : Ctx) (rec : ChannelRecord) (wind : Bool) (old : Stack) (before : Result) (c : Channel),
    rec.inUse = true → c.result = some before →
    let after := compose ctx.set ctx.weather rec c.stack
    let e := c.engine
    let changed := c.stack ≠ old ∨ wind = true
    let settled := fun e' : Engine => (⟨c.stack, some after, e', c.binding⟩ : Channel)
    let limit := 1 ≤ rec.retryLimit ∧ rec.retryLimit ≤ e.retryCount
    let wakes := e.state = .latched ∧ after.layer = .s ∧ before.layer ≠ .s
    let latches := e.state = .retryWait ∧ before.layer = .s ∧ after.layer ≠ .s ∧ limit
    let d := c.settle ctx rec wind old
    (¬ changed → d = c)
      ∧ (changed → wakes →
          d = settled
            { e with
              state := .retryWait
              direction := none
              timer := some (.retry ctx.now)
              overcurrentRun := none
              noLoadRun := none
              reference := none
              armed := ⟨true, true, true, true⟩ })
      ∧ (changed → latches →
          d = settled
            { e with
              state := .latched
              direction := none
              timer := none
              overcurrentRun := none
              noLoadRun := none
              reference := none
              armed := ⟨true, true, true, true⟩ })
      ∧ (changed → after.target ≠ before.target → e.state = .idle →
          d = settled (e.moveTest ctx rec after.target))
      ∧ (changed → after.target ≠ before.target → e.state = .moving →
          d = settled (e.retarget ctx rec after.target))
      ∧ (changed → ¬ wakes → ¬ latches →
          after.target = before.target ∨ (e.state ≠ .idle ∧ e.state ≠ .moving) → d = settled e))
  ∧ ∀ (ctx : Ctx) (rec : ChannelRecord) (l : Layer) (cell : Option Cell) (c : Channel),
      (rec.inUse = true →
        c.write ctx rec l cell
          = ({ c with stack := c.stack.set cell l }).settle ctx rec false c.stack)
        ∧ (rec.inUse = false →
            c.write ctx rec l cell = c ∧ ∀ wind old, c.settle ctx rec wind old = c)

/-- R56: the wind class of a facing. R14 to R16: trim under its four conditions, derate under its three,
the travel clamp, and the flags of the result; the target lies in the travel range. -/
def Obligations.WindTrimDerateAndClampApply : Prop :=
  (∀ (policy : TimeoutPolicy) (w : WeatherRuntime),
      windClass policy w .flat = .neutral
        ∧ ∀ f : Sector,
            (w.direction = none → windClass policy w (.sector f) = .neutral)
            ∧ (w.lost = true → policy = .assumeStormRain → windClass policy w (.sector f) = .neutral)
            ∧ ∀ x : Sector, w.direction = some x → ¬ (w.lost = true ∧ policy = .assumeStormRain) →
                ∃ d : Nat, (d : Int) = min |(x.1 : Int) - f.1| (16 - |(x.1 : Int) - f.1|) ∧ d ≤ 8
                  ∧ (d ≤ 2 → windClass policy w (.sector f) = .windward)
                  ∧ (3 ≤ d → d ≤ 5 → windClass policy w (.sector f) = .cross)
                  ∧ (6 ≤ d → windClass policy w (.sector f) = .leeward))
    ∧ ∀ (set : ConfigSet) (w : WeatherRuntime) (rec : ChannelRecord) (st : Stack),
        rec.travelMin ≤ rec.travelMax →
        let x := foldCells set.layers rec st
        let cls := windClass set.weather.policy w rec.facing
        let r := compose set w rec st
        let trim := (set.layers.get x.layer).trim = true ∧ 0 < x.value ∧ cls ≠ .neutral
          ∧ set.weather.trimThreshold ≤ w.speed
        let derate := (set.layers.get x.layer).derate = true ∧ cls = .windward
          ∧ set.weather.derateThreshold ≤ w.speed
        let added :=
          match cls with
          | .windward => set.weather.trimWindward
          | .cross => set.weather.trimCross
          | .leeward => set.weather.trimLeeward
          | .neutral => 0
        ∃ trimmed derated : Nat,
          (trim → (trimmed : Int) = max 0 (min 1000 ((x.value : Int) + added)))
            ∧ (¬ trim → trimmed = x.value)
            ∧ (derate → derated = trimmed / 2) ∧ (¬ derate → derated = trimmed)
            ∧ r.target = max rec.travelMin (min rec.travelMax derated)
            ∧ r.layer = x.layer ∧ r.wind = cls
            ∧ (r.trimmed = true ↔ trim) ∧ (r.derated = true ↔ derate)
            ∧ (r.clamped = true ↔ r.target ≠ derated)

/-! ## Motion (chapter 5) -/

/-- R98: a LAMP_SET sets or removes the override of its channel and changes nothing else; a channel or
value that is not listed is refused with BAD_VALUE. R93: a CHANNEL_CLEAR puts each LATCHED channel it
names through the move test with retry count 0, leaves every other channel, and refuses a channel that
is neither a channel nor ALL. -/
def Obligations.LampSetAndChannelClearAct : Prop :=
  (∀ (rx : Rx) (channel value a : Nat) (s : Machine.State), rx.ReceivedBy a s → rx.dst = a →
      let s1 := s.supervise rx.src
      let f := lampSetFrame rx channel value
      (16 ≤ channel ∨ 4 ≤ value →
          exec (.lampSet rx channel value) s = .next (s1.reply rx.port f a .badValue [] false))
        ∧ ∀ (n : ChannelNo) (lamp : Option Lamp), channel = n.1 →
            ((value = 0 ∧ lamp = some .off) ∨ (value = 1 ∧ lamp = some .on)
              ∨ (value = 2 ∧ lamp = some .blink) ∨ (value = 3 ∧ lamp = none)) →
            exec (.lampSet rx channel value) s
              = .next ((s1.setChannels (s1.channels.set n
                  { s1.channels.get n with
                    engine := { (s1.channels.get n).engine with lampOverride := lamp } })).reply
                    rx.port f a .accepted [] false))
    ∧ ∀ (rx : Rx) (channel a : Nat) (s : Machine.State), rx.ReceivedBy a s → rx.dst = a →
        let s1 := s.supervise rx.src
        let f := channelClearFrame rx channel
        (16 ≤ channel ∧ channel ≠ 255 →
            exec (.channelClear rx channel) s = .next (s1.reply rx.port f a .badValue [] false))
          ∧ (channel < 16 ∨ channel = 255 →
              ∃ channels,
                exec (.channelClear rx channel) s
                  = .next ((s1.setChannels channels).reply rx.port f a .accepted [] false)
                ∧ ∀ n : ChannelNo,
                    (¬ (channel = n.1 ∨ channel = 255)
                        ∨ (s1.channels.get n).engine.state ≠ .latched →
                      channels.get n = s1.channels.get n)
                    ∧ (channel = n.1 ∨ channel = 255 →
                        (s1.channels.get n).engine.state = .latched →
                        ∀ r, (s1.channels.get n).result = some r →
                          channels.get n
                            = { s1.channels.get n with
                                engine := Engine.moveTest s1.ctx (s.record n) r.target
                                  { (s1.channels.get n).engine with retryCount := 0 } }))

/-- R82 and R89: a dwell or a retry wait that has lasted its time ends in the move test of its channel,
and no other channel or block changes. R75 and R77: the move test; R81: a changed target in MOVING,
against the position as it stands. A disabled NO_PROGRESS keeps no reference (assumption 17). -/
def Obligations.ExpiriesMoveTestAndRetarget : Prop :=
  (∀ (n : ChannelNo) (since : Nat) (r : Result) (s : Machine.State),
      (s.channels.get n).result = some r →
      let c := s.channels.get n
      let tested := s.setChannels (s.channels.set n
        { c with engine := c.engine.moveTest s.ctx (s.record n) r.target })
      (c.engine.state = .dwell → c.engine.timer = some (.dwell since) →
          (s.record n).reversalDwellMs ≤ s.now - since →
          exec (.dwellExpiry n) s = .next tested)
        ∧ (c.engine.state = .retryWait → c.engine.timer = some (.retry since) →
            (s.record n).retryMs ≤ s.now - since →
            exec (.retryExpiry n) s = .next tested))
    ∧ (∀ (ctx : Ctx) (rec : ChannelRecord) (target mm : Nat) (e : Engine), e.position = some mm →
          let position := min 1000 ((mm * 1000 + rec.strokeMm / 2) / rec.strokeMm)
          let setpoint := (target * rec.strokeMm + 500) / 1000
          let wanted := (rec.deadband : Int) < |(target : Int) - position| ∧ setpoint ≠ mm
          let t := e.moveTest ctx rec target
          (¬ wanted → t.state = .idle ∧ t.direction = none ∧ t.stopOwed = e.stopOwed)
            ∧ (wanted → ctx.supplyOk = true →
                t.state = .moving
                  ∧ t.direction = some (if position < target then .opening else .closing)
                  ∧ (rec.detectors.noProgress = true → t.reference = some ⟨mm, ctx.now⟩)
                  ∧ t.overcurrentRun = none ∧ t.noLoadRun = none
                  ∧ t.armed = ⟨true, true, true, true⟩ ∧ t.stopOwed = false)
            ∧ (wanted → ctx.supplyOk = false →
                t.state = .held ∧ t.direction = none ∧ t.stopOwed = true)
            ∧ t.timer = none ∧ t.position = e.position ∧ t.retryCount = e.retryCount
            ∧ t.lastFault = e.lastFault ∧ t.lampOverride = e.lampOverride
            ∧ t.reportedLamp = e.reportedLamp)
        ∧ (∀ (ctx : Ctx) (rec : ChannelRecord) (target mm : Nat) (d : Direction) (e : Engine),
            e.state = .moving → e.position = some mm → e.direction = some d →
            let position := min 1000 ((mm * 1000 + rec.strokeMm / 2) / rec.strokeMm)
            let setpoint := (target * rec.strokeMm + 500) / 1000
            let wanted := (rec.deadband : Int) < |(target : Int) - position| ∧ setpoint ≠ mm
            let ahead := d = (if position < target then .opening else .closing)
            let t := e.retarget ctx rec target
            (wanted → ahead →
                t = { e with
                  reference := if rec.detectors.noProgress then some ⟨mm, ctx.now⟩ else none })
              ∧ (¬ (wanted ∧ ahead) →
                  t.state = .dwell ∧ t.direction = some d ∧ t.timer = some (.dwell ctx.now)
                    ∧ t.stopOwed = true ∧ t.overcurrentRun = e.overcurrentRun ∧ t.armed = e.armed
                    ∧ t.noLoadRun = none ∧ t.reference = none))

/-- R80 and R82, R89, R90, R95: how an engine judges a valid answer of its bound drive. In MOVING the drive
that has stopped at the target, or at the setpoint, is reached (REACHED where the record asks for it), one
that has stopped at the end switch of its direction ends the move, and any other answer goes to the four
detectors; in DWELL two of them are evaluated; in the other states the answer is only recorded. A detector
that fires raises FAULT with its kind and the fault action follows. -/
def Obligations.AnswerIsJudged : Prop :=
  ∀ (now : Nat) (n : ChannelNo) (rec : ChannelRecord) (r : Result) (a : Answer) (e : Engine),
    let j := e.judge now n rec (some r) a
    let recorded : Engine := { e with position := some a.position, reportedLamp := some a.lamp }
    let arrived : Engine :=
      { recorded with
        state := .idle
        direction := none
        retryCount := 0
        timer := none
        overcurrentRun := none
        noLoadRun := none
        reference := none
        armed := ⟨true, true, true, true⟩ }
    let position := min 1000 ((a.position * 1000 + rec.strokeMm / 2) / rec.strokeMm)
    let near := |(r.target : Int) - position| ≤ (rec.deadband : Int)
      ∨ (r.target * rec.strokeMm + 500) / 1000 = a.position
    let ended := (e.direction = some .opening ∧ a.openEnd = true)
      ∨ (e.direction = some .closing ∧ a.closedEnd = true)
    let evaluated := fun detectors : List Detector =>
      ∀ e' found, evalDetectors now rec a detectors recorded = (e', found) →
        (found = none → j = ⟨e', none⟩)
          ∧ ∀ d, found = some d → j = ⟨e'.fault now rec (some r.layer) d, some (.fault n d)⟩
    (e.state = .moving → a.running = false → near →
        j = ⟨arrived, if rec.reportReached = true then some (.reached n r.target) else none⟩)
      ∧ (e.state = .moving → a.running = false → ¬ near → ended → j = ⟨arrived, none⟩)
      ∧ (e.state = .moving → a.running = true ∨ (¬ near ∧ ¬ ended) →
          evaluated [.driveFlag, .overcurrent, .noProgress, .noLoad])
      ∧ (e.state = .dwell → evaluated [.driveFlag, .overcurrent])
      ∧ (e.state ≠ .moving → e.state ≠ .dwell → j = ⟨recorded, none⟩)

/-- R83 to R87: the enabled detectors are evaluated in order up to the first that fires, each on what the
ones before it left. A detector fires armed only: DRIVE_FLAG on either flag; OVERCURRENT and NO_LOAD when
their run has lasted deglitch_ms; NO_PROGRESS when the reference has stood for progress_window_ms. A false
condition ends the run (or renews the reference) and arms the detector. What an answer does that finds no
reference is a free value (assumption 6). -/
def Obligations.DetectorsFireInOrder : Prop :=
  ∀ (now : Nat) (rec : ChannelRecord) (a : Answer) (e : Engine),
    let flagged := a.overtemperature = true ∨ a.driveSupplyFault = true
    evalDetectors now rec a [] e = (e, none)
      ∧ (∀ d rest,
          let x := evalDetector now rec a d e
          (rec.detectors.get d = false →
              evalDetectors now rec a (d :: rest) e = evalDetectors now rec a rest e)
            ∧ (rec.detectors.get d = true → x.fired = true →
                evalDetectors now rec a (d :: rest) e = (x.engine, some d))
            ∧ (rec.detectors.get d = true → x.fired = false →
                evalDetectors now rec a (d :: rest) e = evalDetectors now rec a rest x.engine))
      ∧ (flagged → evalDetector now rec a .driveFlag e = ⟨e, e.armed.driveFlag⟩)
      ∧ (¬ flagged →
          evalDetector now rec a .driveFlag e
            = ⟨{ e with armed := { e.armed with driveFlag := true } }, false⟩)
      ∧ (rec.stallMa ≤ a.current →
          (e.armed.overcurrent = false → evalDetector now rec a .overcurrent e = ⟨e, false⟩)
          ∧ (e.armed.overcurrent = true → e.overcurrentRun = none →
              evalDetector now rec a .overcurrent e
                = ⟨{ e with overcurrentRun := some now }, false⟩)
          ∧ (e.armed.overcurrent = true → ∀ since, e.overcurrentRun = some since →
              evalDetector now rec a .overcurrent e
                = ⟨e, decide (rec.deglitchMs ≤ now - since)⟩))
      ∧ (a.current < rec.stallMa →
          evalDetector now rec a .overcurrent e
            = ⟨{ e with
                overcurrentRun := none
                armed := { e.armed with overcurrent := true } }, false⟩)
      ∧ (a.current < rec.noloadMa →
          (e.armed.noLoad = false → evalDetector now rec a .noLoad e = ⟨e, false⟩)
          ∧ (e.armed.noLoad = true → e.noLoadRun = none →
              evalDetector now rec a .noLoad e = ⟨{ e with noLoadRun := some now }, false⟩)
          ∧ (e.armed.noLoad = true → ∀ since, e.noLoadRun = some since →
              evalDetector now rec a .noLoad e = ⟨e, decide (rec.deglitchMs ≤ now - since)⟩))
      ∧ (rec.noloadMa ≤ a.current →
          evalDetector now rec a .noLoad e
            = ⟨{ e with noLoadRun := none, armed := { e.armed with noLoad := true } }, false⟩)
      ∧ (∀ reference, e.reference = some reference →
          let travelled := |(a.position : Int) - reference.position|
          ((rec.progressMm : Int) ≤ travelled →
              evalDetector now rec a .noProgress e
                = ⟨{ e with
                    reference := some ⟨a.position, now⟩
                    armed := { e.armed with noProgress := true } }, false⟩)
            ∧ (travelled < rec.progressMm →
                evalDetector now rec a .noProgress e
                  = ⟨e, e.armed.noProgress
                      && decide (rec.progressWindowMs ≤ now - reference.time)⟩))
      ∧ (e.reference = none →
          evalDetector now rec a .noProgress e = ⟨e, false⟩
            ∨ evalDetector now rec a .noProgress e
                = ⟨{ e with reference := some ⟨a.position, now⟩ }, false⟩)

/-- R87, R88, R91: what a fault does under each action, with the smoke exemption. -/
def Obligations.FaultActionsFollowConfiguration : Prop :=
  ∀ (now : Nat) (rec : ChannelRecord) (layer : Option Layer) (d : Detector) (e : Engine),
    e.retryCount ≤ 255 →
    let t := e.fault now rec layer d
    let count := min 255 (e.retryCount + 1)
    t.lastFault = some d
      ∧ (rec.faultAction = .reportOnly →
          t.state = e.state ∧ t.timer = e.timer ∧ t.retryCount = e.retryCount
            ∧ t.armed.get d = false ∧ (∀ x, x ≠ d → t.armed.get x = e.armed.get x))
      ∧ (rec.faultAction = .latch → layer ≠ some .s →
          t.state = .latched ∧ t.retryCount = e.retryCount)
      ∧ (rec.faultAction ≠ .reportOnly → layer = some .s →
          t.state = .retryWait ∧ t.timer = some (.retry now) ∧ t.retryCount = count)
      ∧ (rec.faultAction = .retry → layer ≠ some .s → rec.retryLimit = 0 ∨ count < rec.retryLimit →
          t.state = .retryWait ∧ t.timer = some (.retry now) ∧ t.retryCount = count)
      ∧ (rec.faultAction = .retry → layer ≠ some .s → 1 ≤ rec.retryLimit →
          rec.retryLimit ≤ count → t.state = .latched ∧ t.retryCount = count)
      ∧ (rec.faultAction ≠ .reportOnly → t.stopOwed = true ∧ t.direction = none)

/-! ## The supply (chapter 7) -/

/-- R127, R129 to R131, R133 to R135: a due sample becomes the last sample (at most 400), moves the next
one by 100 ms, and acts on the counts and the state by the tables of R129 and R130; a change of state
raises SUPPLY and, by R94 and R95, holds the channels in MOVING, DWELL and RETRY_WAIT when OK is left,
puts the HELD channels through the move test when it returns, and leaves the channels between LOW and
HIGH. -/
def Obligations.SupplySampleQualifies : Prop :=
  ∀ (reading due : Nat) (s : Machine.State), s.supply.nextSample = some due → due ≤ s.now →
    let v := min reading 400
    let low := v < s.node.supplyMin
    let high := ¬ low ∧ s.node.supplyMax < v
    let inside := ¬ low ∧ ¬ high
    let u := s.supply
    let done := fun t : Machine.State => exec (.supplySample reading) s = .next t
    let counted := fun below above inWindow : Nat =>
      done (s.setSupply ⟨u.state, u.latched, below, above, inWindow, some v, some (due + 100)⟩)
    let changed := fun (state : SupplyState) (latched : Bool) (channels : Table Channel 16) =>
      done (((s.setSupply ⟨state, latched, 0, 0, 0, some v, some (due + 100)⟩).raise
        (.supply state)).setChannels channels)
    let lowFlag := u.latched || decide (s.node.supplyMinMode = .latch)
    let highFlag := u.latched || decide (s.node.supplyMaxMode = .latch)
    let held := fun channels : Table Channel 16 =>
      ∀ n, let c := s.channels.get n
        let caught := c.engine.state = .moving ∨ c.engine.state = .dwell ∨ c.engine.state = .retryWait
        (caught →
            channels.get n
              = { c with
                  engine :=
                    { c.engine with
                      state := .held
                      direction := none
                      timer := none
                      overcurrentRun := none
                      noLoadRun := none
                      reference := none
                      armed := ⟨true, true, true, true⟩
                      stopOwed := true } })
          ∧ (¬ caught → channels.get n = c)
    let released := fun channels : Table Channel 16 =>
      ∀ n, let c := s.channels.get n
        (c.engine.state ≠ .held → channels.get n = c)
          ∧ (c.engine.state = .held → ∀ r, c.result = some r →
              channels.get n
                = { c with
                    engine :=
                      c.engine.moveTest ⟨s.store.active, s.weather, true, s.now⟩ (s.record n)
                        r.target })
    (u.state = .ok → low → u.below ≤ 1 → counted (u.below + 1) 0 0)
      ∧ (u.state = .ok → low → 2 ≤ u.below →
          ∃ channels, changed .low lowFlag channels ∧ held channels)
      ∧ (u.state = .ok → high → u.above ≤ 1 → counted 0 (u.above + 1) 0)
      ∧ (u.state = .ok → high → 2 ≤ u.above →
          ∃ channels, changed .high highFlag channels ∧ held channels)
      ∧ (u.state = .ok → inside → counted 0 0 0)
      ∧ (u.state = .low → low → counted 0 0 0)
      ∧ (u.state = .high → high → counted 0 0 0)
      ∧ (u.state = .low → high → u.above ≤ 1 → counted 0 (u.above + 1) 0)
      ∧ (u.state = .low → high → 2 ≤ u.above → changed .high highFlag s.channels)
      ∧ (u.state = .high → low → u.below ≤ 1 → counted (u.below + 1) 0 0)
      ∧ (u.state = .high → low → 2 ≤ u.below → changed .low lowFlag s.channels)
      ∧ (u.state ≠ .ok → inside → u.inWindow ≤ 8 ∨ u.latched = true →
          counted 0 0 (min 10 (u.inWindow + 1)))
      ∧ (u.state ≠ .ok → inside → 9 ≤ u.inWindow → u.latched = false →
          ∃ channels, changed .ok false channels ∧ released channels)

/-- R132: a SUPPLY_CLEAR is refused with STILL_OUT unless the last sample is present and in the window;
accepted, it leaves OK, unlatched, with every count 0, and the HELD channels released. -/
def Obligations.SupplyClearNeedsSampleInWindow : Prop :=
  ∀ (rx : Rx) (a : Nat) (s : Machine.State), rx.ReceivedBy a s → rx.dst = a →
    let s1 := s.supervise rx.src
    let f := supplyClearFrame rx
    let inside := ∃ v, s.supply.last = some v ∧ s.node.supplyMin ≤ v ∧ v ≤ s.node.supplyMax
    let body := fun x : Machine.State =>
      byte x.supply.state.code :: be16 (x.supply.last.getD 0xFFFF)
    (¬ inside →
        exec (.supplyClear rx) s = .next (s1.reply rx.port f a .stillOut (body s) false))
      ∧ (inside → s.supply.state = .ok →
          exec (.supplyClear rx) s = .next (s1.reply rx.port f a .accepted (body s) false))
      ∧ (inside → s.supply.state ≠ .ok →
          ∃ channels,
            let t := ((s1.setSupply ⟨.ok, false, 0, 0, 0, s.supply.last, s.supply.nextSample⟩).raise
              (.supply .ok)).setChannels channels
            exec (.supplyClear rx) s = .next (t.reply rx.port f a .accepted (body t) false)
            ∧ ∀ n, ((s1.channels.get n).engine.state ≠ .held →
                  channels.get n = s1.channels.get n)
                ∧ ((s1.channels.get n).engine.state = .held →
                    ∀ r, (s1.channels.get n).result = some r →
                      channels.get n
                        = { s1.channels.get n with
                            engine :=
                              (s1.channels.get n).engine.moveTest
                                ⟨s.store.active, s.weather, true, s.now⟩ (s.record n) r.target }))

/-! ## The branch line (chapter 6) -/

/-- R105 to R107, R116, R117, R123: when the start period or the slot in progress has lasted 12 ms and
its exchange is over, the next slot begins, 12 ms after the start of the one before (also where the
command comes later: the model's reading, assumption 20); slot 0 takes the active cycle table. Its poll
is sent: a channel's station with the command of R74 and the lamp field of R97, the oldest farewell with
STOP, the pointer's station or the first unclaimed one after it with STOP, or nothing; discovery moves
the pointer to the first unclaimed station after the one polled, counting up and from 31 to 1. A poll is
transmitted as the seven characters of section 9.6, its check computed as the answer's is (the model's
choice, assumption 32). -/
def Obligations.SlotStartSendsPoll : Prop :=
  (∀ (since : Nat) (next : Fin 24) (s : Machine.State),
    (s.branch.schedule = .starting since ∧ next = 0)
      ∨ (∃ index : Fin 24, s.branch.schedule = .slot index since ∧ next = index + 1) →
    since + 12 ≤ s.now → s.branch.exchange = none →
    let table := if next = 0 then s.store.active.cycle else s.branch.running
    let unclaimed := fun st : Nat => ∀ m, (s.record m).inUse = true → (s.record m).station ≠ st
    let after := fun (st k : Nat) => (st - 1 + k) % 31 + 1
    ∃ b, exec .slotStart s = .next (s.setBranch b)
      ∧ b.schedule = .slot next (since + 12) ∧ b.running = table
      ∧ b.strangers = s.branch.strangers ∧ b.overflow = s.branch.overflow
      ∧ (table.get next ≠ .discover →
          b.pointer = s.branch.pointer ∧ b.farewell = s.branch.farewell)
      ∧ (table.get next = .idle → b.sent = none ∧ b.exchange = none)
      ∧ (∀ n, table.get next = .channel n → (s.record n).inUse = false →
          b.sent = none ∧ b.exchange = none)
      ∧ (∀ n, table.get next = .channel n → (s.record n).inUse = true →
          let r := s.record n
          let e := (s.channels.get n).engine
          let result := (s.channels.get n).result
          let wanted := e.lampOverride.getD
            (if e.state = .latched then .blink
              else if result.map Result.layer = some .s ∨ result.map Result.layer = some .f then .on
              else .off)
          ∃ p, b.sent = some p ∧ b.exchange = some ⟨.channel n true, p, since + 12⟩
            ∧ p.station = r.station
            ∧ (e.state = .moving → ∀ x, result = some x →
                p.command = .goto ((x.target * r.strokeMm + 500) / 1000))
            ∧ (e.state ≠ .moving → ∀ mm, p.command ≠ .goto mm)
            ∧ (e.state = .unbound ∨ e.state = .lost ∨ e.state = .held ∨ e.state = .dwell →
                p.command = .stop)
            ∧ (e.state = .idle → p.command = if e.stopOwed = true then .stop else .hold)
            ∧ (e.state = .retryWait ∨ e.state = .latched →
                p.command
                  = if e.stopOwed = true then
                      if 0 < r.relieveMm then .relieve r.relieveMm else .stop
                    else .hold)
            ∧ p.lamp
                = if e.state = .unbound ∨ e.state = .lost ∨ e.reportedLamp = some (.lamp wanted) then
                    none
                  else some wanted)
      ∧ (table.get next = .discover → ∀ st rest, s.branch.farewell = st :: rest →
          b.farewell = rest ∧ b.pointer = s.branch.pointer ∧ b.sent = some ⟨st, .stop, none⟩
            ∧ b.exchange = some ⟨.farewell, ⟨st, .stop, none⟩, since + 12⟩)
      ∧ (table.get next = .discover → s.branch.farewell = [] → 1 ≤ s.branch.pointer →
          s.branch.pointer ≤ 31 →
          ∃ k l, let st := after s.branch.pointer k
            unclaimed st ∧ (∀ j, j < k → ¬ unclaimed (after s.branch.pointer j))
            ∧ b.sent = some ⟨st, .stop, none⟩
            ∧ b.exchange = some ⟨.discovery, ⟨st, .stop, none⟩, since + 12⟩
            ∧ 1 ≤ l ∧ unclaimed (after st l) ∧ (∀ j, 1 ≤ j → j < l → ¬ unclaimed (after st j))
            ∧ b.pointer = after st l ∧ b.farewell = []))
  ∧ ∀ q : Poll,
      let command :=
        match q.command with
        | .hold => (0, 0)
        | .stop => (1, 0)
        | .goto mm => (2, mm)
        | .relieve mm => (3, mm)
      let lamp :=
        match q.lamp with
        | none => 0
        | some .off => 1
        | some .on => 2
        | some .blink => 3
      let body := [byte q.station, byte command.1] ++ be16 command.2 ++ [byte lamp]
      q.chars = body ++ crcBytes body

/-- R110, R111, R114, R115: what the first reception within the window does to a channel that is in
service, waits to be bound or is no longer counted, and to a farewell: an answer of the bound drive
clears the misses, sets the M cell by its key, settles a stop or relief the poll carried and is then
judged by the engine, in that order (assumption 19); an acceptable answer binds a channel not BOUND; one
that is not acceptable goes to the Stranger List; a garbled one is logged. A reception in the last
millisecond of the window, 8 ms after the start, counts as within it (the model's choice, assumption 21);
any later one, or one without an exchange, is discarded. -/
def Obligations.AnswersBindAndServeChannels : Prop :=
  (∀ (n : ChannelNo) (poll : Poll) (start : Nat) (chars : List Byte) (s : Machine.State),
    s.branch.exchange = some ⟨.channel n true, poll, start⟩ → s.now ≤ start + 8 →
    (s.record n).inUse = true →
    let c := s.channels.get n
    let closed := s.setBranch { s.branch with exchange := none }
    let key := fun a : Answer =>
      match a.key with
      | .toOpen => some (⟨1000, .key, none⟩ : Cell)
      | .toClose => some ⟨0, .key, none⟩
      | .auto => none
    (∀ ans, validAnswer poll.station chars = some ans → c.binding.status = .bound →
        c.binding.serial = some ans.serial →
        let heard : Channel :=
          Channel.write s.ctx (s.record n) .m (key ans)
            { c with binding := ⟨.bound, some ans.serial, some 0⟩ }
        let settled := poll.command = .stop ∨ ∃ mm, poll.command = .relieve mm
        ∃ e, (settled → e = { heard.engine with stopOwed := false })
          ∧ (¬ settled → e = heard.engine)
          ∧ heard.stack = { c.stack with m := key ans }
          ∧ exec (.branchReception chars) s
              = .next ((closed.setChannels (s.channels.set n
                  { heard with engine := (e.judge s.now n (s.record n) heard.result ans).engine
                  })).raiseOption (e.judge s.now n (s.record n) heard.result ans).notice))
      ∧ (∀ ans, validAnswer poll.station chars = some ans → c.binding.status ≠ .bound →
          (∀ y, (s.record n).serial = some y → y = ans.serial) →
          ∃ d,
            exec (.branchReception chars) s
                = .next (((s.setBranch
                    { s.branch with
                      exchange := none
                      strangers :=
                        s.branch.strangers.filter fun y =>
                          decide (y ≠ ⟨ans.station, ans.serial⟩) }).setChannels
                    (s.channels.set n d)).raise (.bound n))
              ∧ d.binding = ⟨.bound, some ans.serial, some 0⟩
              ∧ d.stack = { c.stack with m := key ans }
              ∧ (c.stack.m = key ans → d.result = c.result)
              ∧ (c.stack.m ≠ key ans →
                  d.result = some (compose s.store.active s.weather (s.record n) d.stack))
              ∧ d.engine.state.isBound = true ∧ d.engine.position = some ans.position
              ∧ d.engine.retryCount = 0
              ∧ ∀ r, d.result = some r →
                  d.engine
                    = Engine.moveTest s.ctx (s.record n) r.target
                        { c.engine with
                          position := some ans.position
                          reportedLamp := some ans.lamp
                          retryCount := 0
                          stopOwed := false })
      ∧ (∀ ans, validAnswer poll.station chars = some ans → c.binding.status ≠ .bound →
          (∃ y, (s.record n).serial = some y ∧ y ≠ ans.serial) →
          exec (.branchReception chars) s = .next (closed.addStranger ⟨ans.station, ans.serial⟩))
      ∧ (validAnswer poll.station chars = none → c.binding.status ≠ .bound →
          exec (.branchReception chars) s
            = .next (closed.logError .branchCrc .branch (.station poll.station))))
  ∧ ∀ (chars : List Byte) (s : Machine.State),
      (∀ kind poll start, s.branch.exchange = some ⟨kind, poll, start⟩ → s.now ≤ start + 8 →
        (kind = .farewell ∨ ∃ n, kind = .channel n false) →
        let closed := s.setBranch { s.branch with exchange := none }
        ((∃ ans, validAnswer poll.station chars = some ans) →
            exec (.branchReception chars) s = .next closed)
          ∧ (validAnswer poll.station chars = none →
              exec (.branchReception chars) s
                = .next (closed.logError .branchCrc .branch (.station poll.station))))
      ∧ ((∀ x, s.branch.exchange = some x → x.start + 8 < s.now) →
          exec (.branchReception chars) s = .next s)

/-- R112, R113, R96: a miss of a BOUND channel (a window that closes without a reception, a garbled
answer, whose BRANCH_CRC is logged, or a foreign answer, whose drive goes to the Stranger List where its
serial is not acceptable) raises the miss count to 1 and to 2, and the third makes the channel LOST
without its M cell and raises LOST; its engine keeps, of what R96 does not name, the reported lamp too
(assumption 18). R113, R116, R118: the close of any other window ends the exchange, and for a discovery
removes the Stranger List entry of its station. The last millisecond of the window admits both a
reception and the close (assumption 21). -/
def Obligations.MissesAreCountedToLoss : Prop :=
  ∀ (poll : Poll) (start : Nat) (s : Machine.State),
    let closed := s.setBranch { s.branch with exchange := none }
    (∀ n, s.branch.exchange = some ⟨.channel n true, poll, start⟩ →
        let c := s.channels.get n
        let r := s.record n
        let missed := fun (u : Machine.State) (outcome : Host.Outcome Machine.State Fault Refusal) =>
          (∀ k, c.binding.misses = some k → k ≤ 1 →
              outcome
                = .next (u.setChannels (s.channels.set n
                    { c with binding := { c.binding with misses := some (k + 1) } })))
            ∧ (c.binding.misses = some 2 → r.inUse = true →
                ∃ d, outcome = .next ((u.setChannels (s.channels.set n d)).raise (.lost n))
                  ∧ d.binding = ⟨.lost, c.binding.serial, none⟩
                  ∧ d.stack = { c.stack with m := none }
                  ∧ (c.stack.m = none → d.result = c.result)
                  ∧ (c.stack.m ≠ none →
                      d.result = some (compose s.store.active s.weather r d.stack))
                  ∧ d.engine
                      = { c.engine with
                          state := .lost
                          direction := none
                          timer := none
                          overcurrentRun := none
                          noLoadRun := none
                          reference := none
                          armed := ⟨true, true, true, true⟩
                          retryCount := 0
                          stopOwed := false })
        (c.binding.status ≠ .bound → start + 8 ≤ s.now →
            exec .answerWindowClose s = .next closed)
          ∧ (c.binding.status = .bound → start + 8 ≤ s.now →
              missed closed (exec .answerWindowClose s))
          ∧ (c.binding.status = .bound → s.now ≤ start + 8 → ∀ chars,
              (validAnswer poll.station chars = none →
                missed (closed.logError .branchCrc .branch (.station poll.station))
                  (exec (.branchReception chars) s))
              ∧ ∀ ans, validAnswer poll.station chars = some ans → c.binding.serial ≠ some ans.serial →
                  ((∀ y, r.serial = some y → y = ans.serial) →
                    missed closed (exec (.branchReception chars) s))
                  ∧ ((∃ y, r.serial = some y ∧ y ≠ ans.serial) →
                      missed (closed.addStranger ⟨ans.station, ans.serial⟩)
                        (exec (.branchReception chars) s))))
      ∧ (s.branch.exchange = some ⟨.discovery, poll, start⟩ → start + 8 ≤ s.now →
          exec .answerWindowClose s
            = .next (s.setBranch
                { s.branch with
                  exchange := none
                  strangers := s.branch.strangers.filter fun y =>
                    decide (y.station ≠ poll.station) }))
      ∧ (s.branch.exchange = some ⟨.farewell, poll, start⟩
            ∨ (∃ n, s.branch.exchange = some ⟨.channel n false, poll, start⟩) →
          start + 8 ≤ s.now → exec .answerWindowClose s = .next closed)

/-- R120's table, which discovery answers, foreign answers and unacceptable ones share; R118: what the
first reception within the window of a discovery exchange does (8 ms after its start still within it,
the model's choice, assumption 21). -/
def Obligations.DiscoveryAnswerFillsStrangerList : Prop :=
  (∀ (x : Stranger) (s : Machine.State),
    let list := s.branch.strangers
    let after := fun l : List Stranger =>
      (s.setBranch { s.branch with strangers := l }).raise (.stranger x.station)
    (x ∈ list → s.addStranger x = s)
      ∧ (x ∉ list → (∃ y ∈ list, y.station = x.station) →
          s.addStranger x
            = after (list.filter (fun y => decide (y.station ≠ x.station)) ++ [x]))
      ∧ ((∀ y ∈ list, y.station ≠ x.station) → list.length < 8 →
          s.addStranger x = after (list ++ [x]))
      ∧ ((∀ y ∈ list, y.station ≠ x.station) → 8 ≤ list.length →
          s.addStranger x = s.setBranch { s.branch with overflow := true }))
  ∧ ∀ (poll : Poll) (start : Nat) (chars : List Byte) (s : Machine.State),
      s.branch.exchange = some ⟨.discovery, poll, start⟩ → s.now ≤ start + 8 →
      let closed := s.setBranch { s.branch with exchange := none }
      (validAnswer poll.station chars = none →
          exec (.branchReception chars) s
            = .next (closed.logError .branchCrc .branch (.station poll.station)))
        ∧ ∀ ans, validAnswer poll.station chars = some ans →
            let welcome := ∃ n, (s.record n).inUse = true ∧ (s.record n).station = ans.station
              ∧ ∀ y, (s.record n).serial = some y → y = ans.serial
            (welcome → exec (.branchReception chars) s = .next closed)
              ∧ (¬ welcome →
                  exec (.branchReception chars) s
                    = .next (closed.addStranger ⟨ans.station, ans.serial⟩))

/-! ## The laws that every command keeps -/

/-- The state after reset meets every law (the straps and the contact of the model's choice, assumption
1). -/
def Obligations.ResetMeetsEveryLaw : Prop := Machine.State.reset.Good

/-- R161 and R164: ATTENTION follows the offerable notices, and the set keeps one record per kind and
channel. -/
def Obligations.StepKeepsNoticeLaw : Prop :=
  ∀ s t : Machine.State, s.NoticeLaw → step s = .next t → t.NoticeLaw

/-- R149, R158, R159: the queues keep their capacities and empty with their link, and a reset is pending
exactly while a reply that carries it waits or is in flight, on a link that has gone DOWN since too
(assumption 33). -/
def Obligations.StepKeepsPortLaws : Prop :=
  ∀ s t : Machine.State, step s = .next t →
    (s.PortLaw → t.PortLaw) ∧ (s.ResetLaw → t.ResetLaw)

/-- R2, R3, R18: the result of an in-use channel is the composition of its inputs; R30, R41, R57, R66, R71:
its cells are those its producers ask for. -/
def Obligations.StepKeepsStackLaws : Prop :=
  ∀ s t : Machine.State, step s = .next t →
    (s.CompositionLaw → t.CompositionLaw) ∧ (s.CellLaw → t.CellLaw)

/-- R73, R83, section 6.5: engines and binding records keep the fields of their states, and agree. -/
def Obligations.StepKeepsEngineLaw : Prop :=
  ∀ s t : Machine.State, s.EngineLaw → step s = .next t → t.EngineLaw

/-- R91: no channel is LATCHED while S decides it; R77 and R94: while the supply is out of its window no
channel is MOVING or in DWELL, so no poll carries GOTO. -/
def Obligations.StepKeepsMotionLaws : Prop :=
  ∀ s t : Machine.State, step s = .next t →
    (s.SmokeLaw → t.SmokeLaw) ∧ (s.HoldLaw → t.HoldLaw)

/-- The records of the Weather Unit, the Supply Monitor, panel supervision, the contact and the Branch
Master keep the relations of their fields (R47, R55, R131, R38, R40, R36, R117, R119, R122). -/
def Obligations.StepKeepsRecordLaws : Prop :=
  ∀ s t : Machine.State, step s = .next t →
    (s.WeatherLaw → t.WeatherLaw) ∧ (s.SupplyLaw → t.SupplyLaw)
      ∧ (s.SupervisionLaw → t.SupervisionLaw) ∧ (s.ContactLaw → t.ContactLaw)
      ∧ (s.BranchLaw → t.BranchLaw)

/-- R141 and R138: the active set is valid, and both sets hold allowed values. -/
def Obligations.StepKeepsStoreLaw : Prop :=
  ∀ s t : Machine.State, s.StoreLaw → step s = .next t → t.StoreLaw

/-- R126, R135, R146, R150: in repeater mode every command but POWER_ON leaves the part as it was, but
for its ports and its contact. -/
def Obligations.RepeaterChangesPortsAndContactOnly : Prop :=
  ∀ (c : Instr) (s t : Machine.State), s.repeater = true → s.RepeaterLaw →
    (∀ straps rate contact, c ≠ .powerOn straps rate contact) → exec c s = .next t →
      t.RepeaterLaw
        ∧ ∃ up down contact,
            t = { s with
              trunk := { s.trunk with up, down }
              zone := { s.zone with contact } }

/-- R142 and R145: the active set changes only by the staged set of an accepted commit, which raises the
generation by one, or by power-on. -/
def Obligations.OnlyCommitsChangeActiveSet : Prop :=
  ∀ (c : Instr) (s t : Machine.State), (∀ straps rate contact, c ≠ .powerOn straps rate contact) →
    exec c s = .next t →
      (t.store.active = s.store.active ∧ t.store.generation = s.store.generation)
        ∨ ∃ x, s.store.staged = some x ∧ failure x.set = none
            ∧ t.store = ⟨x.set, none, s.store.generation + 1⟩
end

