-- ==== Sys2Proof/Laws/State.lean ====
section
/-! SUPPORT. One lemma per field per block update of the state. -/

namespace Sys2Proof.Machine

variable (s : State)

/-! ## setNow -/

@[simp] theorem State.setNow_now (t : Nat) : (s.setNow t).now = t := rfl
@[simp] theorem State.setNow_freeCount (t : Nat) : (s.setNow t).freeCount = s.freeCount := rfl
@[simp] theorem State.setNow_trunk (t : Nat) : (s.setNow t).trunk = s.trunk := rfl
@[simp] theorem State.setNow_store (t : Nat) : (s.setNow t).store = s.store := rfl
@[simp] theorem State.setNow_zone (t : Nat) : (s.setNow t).zone = s.zone := rfl
@[simp] theorem State.setNow_weather (t : Nat) : (s.setNow t).weather = s.weather := rfl
@[simp] theorem State.setNow_channels (t : Nat) : (s.setNow t).channels = s.channels := rfl
@[simp] theorem State.setNow_branch (t : Nat) : (s.setNow t).branch = s.branch := rfl
@[simp] theorem State.setNow_supply (t : Nat) : (s.setNow t).supply = s.supply := rfl
@[simp] theorem State.setNow_notice (t : Nat) : (s.setNow t).notice = s.notice := rfl
@[simp] theorem State.setNow_pending (t : Nat) : (s.setNow t).pending = s.pending := rfl

/-! ## setFreeCount -/

@[simp] theorem State.setFreeCount_now (k : Nat) : (s.setFreeCount k).now = s.now := rfl
@[simp] theorem State.setFreeCount_freeCount (k : Nat) : (s.setFreeCount k).freeCount = k := rfl
@[simp] theorem State.setFreeCount_trunk (k : Nat) : (s.setFreeCount k).trunk = s.trunk := rfl
@[simp] theorem State.setFreeCount_store (k : Nat) : (s.setFreeCount k).store = s.store := rfl
@[simp] theorem State.setFreeCount_zone (k : Nat) : (s.setFreeCount k).zone = s.zone := rfl
@[simp] theorem State.setFreeCount_weather (k : Nat) : (s.setFreeCount k).weather = s.weather := rfl
@[simp] theorem State.setFreeCount_channels (k : Nat) :
    (s.setFreeCount k).channels = s.channels := rfl
@[simp] theorem State.setFreeCount_branch (k : Nat) : (s.setFreeCount k).branch = s.branch := rfl
@[simp] theorem State.setFreeCount_supply (k : Nat) : (s.setFreeCount k).supply = s.supply := rfl
@[simp] theorem State.setFreeCount_notice (k : Nat) : (s.setFreeCount k).notice = s.notice := rfl
@[simp] theorem State.setFreeCount_pending (k : Nat) : (s.setFreeCount k).pending = s.pending := rfl

/-! ## setTrunk -/

@[simp] theorem State.setTrunk_now (t : Trunk) : (s.setTrunk t).now = s.now := rfl
@[simp] theorem State.setTrunk_freeCount (t : Trunk) : (s.setTrunk t).freeCount = s.freeCount := rfl
@[simp] theorem State.setTrunk_trunk (t : Trunk) : (s.setTrunk t).trunk = t := rfl
@[simp] theorem State.setTrunk_store (t : Trunk) : (s.setTrunk t).store = s.store := rfl
@[simp] theorem State.setTrunk_zone (t : Trunk) : (s.setTrunk t).zone = s.zone := rfl
@[simp] theorem State.setTrunk_weather (t : Trunk) : (s.setTrunk t).weather = s.weather := rfl
@[simp] theorem State.setTrunk_channels (t : Trunk) : (s.setTrunk t).channels = s.channels := rfl
@[simp] theorem State.setTrunk_branch (t : Trunk) : (s.setTrunk t).branch = s.branch := rfl
@[simp] theorem State.setTrunk_supply (t : Trunk) : (s.setTrunk t).supply = s.supply := rfl
@[simp] theorem State.setTrunk_notice (t : Trunk) : (s.setTrunk t).notice = s.notice := rfl
@[simp] theorem State.setTrunk_pending (t : Trunk) : (s.setTrunk t).pending = s.pending := rfl

/-! ## setStore -/

@[simp] theorem State.setStore_now (t : Store) : (s.setStore t).now = s.now := rfl
@[simp] theorem State.setStore_freeCount (t : Store) : (s.setStore t).freeCount = s.freeCount := rfl
@[simp] theorem State.setStore_trunk (t : Store) : (s.setStore t).trunk = s.trunk := rfl
@[simp] theorem State.setStore_store (t : Store) : (s.setStore t).store = t := rfl
@[simp] theorem State.setStore_zone (t : Store) : (s.setStore t).zone = s.zone := rfl
@[simp] theorem State.setStore_weather (t : Store) : (s.setStore t).weather = s.weather := rfl
@[simp] theorem State.setStore_channels (t : Store) : (s.setStore t).channels = s.channels := rfl
@[simp] theorem State.setStore_branch (t : Store) : (s.setStore t).branch = s.branch := rfl
@[simp] theorem State.setStore_supply (t : Store) : (s.setStore t).supply = s.supply := rfl
@[simp] theorem State.setStore_notice (t : Store) : (s.setStore t).notice = s.notice := rfl
@[simp] theorem State.setStore_pending (t : Store) : (s.setStore t).pending = s.pending := rfl

/-! ## setZone -/

@[simp] theorem State.setZone_now (t : ZoneUnit) : (s.setZone t).now = s.now := rfl
@[simp] theorem State.setZone_freeCount (t : ZoneUnit) :
    (s.setZone t).freeCount = s.freeCount := rfl
@[simp] theorem State.setZone_trunk (t : ZoneUnit) : (s.setZone t).trunk = s.trunk := rfl
@[simp] theorem State.setZone_store (t : ZoneUnit) : (s.setZone t).store = s.store := rfl
@[simp] theorem State.setZone_zone (t : ZoneUnit) : (s.setZone t).zone = t := rfl
@[simp] theorem State.setZone_weather (t : ZoneUnit) : (s.setZone t).weather = s.weather := rfl
@[simp] theorem State.setZone_channels (t : ZoneUnit) : (s.setZone t).channels = s.channels := rfl
@[simp] theorem State.setZone_branch (t : ZoneUnit) : (s.setZone t).branch = s.branch := rfl
@[simp] theorem State.setZone_supply (t : ZoneUnit) : (s.setZone t).supply = s.supply := rfl
@[simp] theorem State.setZone_notice (t : ZoneUnit) : (s.setZone t).notice = s.notice := rfl
@[simp] theorem State.setZone_pending (t : ZoneUnit) : (s.setZone t).pending = s.pending := rfl

/-! ## setWeather -/

@[simp] theorem State.setWeather_now (t : WeatherRuntime) : (s.setWeather t).now = s.now := rfl
@[simp] theorem State.setWeather_freeCount (t : WeatherRuntime) :
    (s.setWeather t).freeCount = s.freeCount := rfl
@[simp] theorem State.setWeather_trunk (t : WeatherRuntime) :
    (s.setWeather t).trunk = s.trunk := rfl
@[simp] theorem State.setWeather_store (t : WeatherRuntime) :
    (s.setWeather t).store = s.store := rfl
@[simp] theorem State.setWeather_zone (t : WeatherRuntime) : (s.setWeather t).zone = s.zone := rfl
@[simp] theorem State.setWeather_weather (t : WeatherRuntime) : (s.setWeather t).weather = t := rfl
@[simp] theorem State.setWeather_channels (t : WeatherRuntime) :
    (s.setWeather t).channels = s.channels := rfl
@[simp] theorem State.setWeather_branch (t : WeatherRuntime) :
    (s.setWeather t).branch = s.branch := rfl
@[simp] theorem State.setWeather_supply (t : WeatherRuntime) :
    (s.setWeather t).supply = s.supply := rfl
@[simp] theorem State.setWeather_notice (t : WeatherRuntime) :
    (s.setWeather t).notice = s.notice := rfl
@[simp] theorem State.setWeather_pending (t : WeatherRuntime) :
    (s.setWeather t).pending = s.pending := rfl

/-! ## setChannels -/

@[simp] theorem State.setChannels_now (t : Table Channel 16) : (s.setChannels t).now = s.now := rfl
@[simp] theorem State.setChannels_freeCount (t : Table Channel 16) :
    (s.setChannels t).freeCount = s.freeCount := rfl
@[simp] theorem State.setChannels_trunk (t : Table Channel 16) :
    (s.setChannels t).trunk = s.trunk := rfl
@[simp] theorem State.setChannels_store (t : Table Channel 16) :
    (s.setChannels t).store = s.store := rfl
@[simp] theorem State.setChannels_zone (t : Table Channel 16) :
    (s.setChannels t).zone = s.zone := rfl
@[simp] theorem State.setChannels_weather (t : Table Channel 16) :
    (s.setChannels t).weather = s.weather := rfl
@[simp] theorem State.setChannels_channels (t : Table Channel 16) :
    (s.setChannels t).channels = t := rfl
@[simp] theorem State.setChannels_branch (t : Table Channel 16) :
    (s.setChannels t).branch = s.branch := rfl
@[simp] theorem State.setChannels_supply (t : Table Channel 16) :
    (s.setChannels t).supply = s.supply := rfl
@[simp] theorem State.setChannels_notice (t : Table Channel 16) :
    (s.setChannels t).notice = s.notice := rfl
@[simp] theorem State.setChannels_pending (t : Table Channel 16) :
    (s.setChannels t).pending = s.pending := rfl

/-! ## setBranch -/

@[simp] theorem State.setBranch_now (t : Branch) : (s.setBranch t).now = s.now := rfl
@[simp] theorem State.setBranch_freeCount (t : Branch) :
    (s.setBranch t).freeCount = s.freeCount := rfl
@[simp] theorem State.setBranch_trunk (t : Branch) : (s.setBranch t).trunk = s.trunk := rfl
@[simp] theorem State.setBranch_store (t : Branch) : (s.setBranch t).store = s.store := rfl
@[simp] theorem State.setBranch_zone (t : Branch) : (s.setBranch t).zone = s.zone := rfl
@[simp] theorem State.setBranch_weather (t : Branch) : (s.setBranch t).weather = s.weather := rfl
@[simp] theorem State.setBranch_channels (t : Branch) : (s.setBranch t).channels = s.channels := rfl
@[simp] theorem State.setBranch_branch (t : Branch) : (s.setBranch t).branch = t := rfl
@[simp] theorem State.setBranch_supply (t : Branch) : (s.setBranch t).supply = s.supply := rfl
@[simp] theorem State.setBranch_notice (t : Branch) : (s.setBranch t).notice = s.notice := rfl
@[simp] theorem State.setBranch_pending (t : Branch) : (s.setBranch t).pending = s.pending := rfl

/-! ## setSupply -/

@[simp] theorem State.setSupply_now (t : Supply) : (s.setSupply t).now = s.now := rfl
@[simp] theorem State.setSupply_freeCount (t : Supply) :
    (s.setSupply t).freeCount = s.freeCount := rfl
@[simp] theorem State.setSupply_trunk (t : Supply) : (s.setSupply t).trunk = s.trunk := rfl
@[simp] theorem State.setSupply_store (t : Supply) : (s.setSupply t).store = s.store := rfl
@[simp] theorem State.setSupply_zone (t : Supply) : (s.setSupply t).zone = s.zone := rfl
@[simp] theorem State.setSupply_weather (t : Supply) : (s.setSupply t).weather = s.weather := rfl
@[simp] theorem State.setSupply_channels (t : Supply) : (s.setSupply t).channels = s.channels := rfl
@[simp] theorem State.setSupply_branch (t : Supply) : (s.setSupply t).branch = s.branch := rfl
@[simp] theorem State.setSupply_supply (t : Supply) : (s.setSupply t).supply = t := rfl
@[simp] theorem State.setSupply_notice (t : Supply) : (s.setSupply t).notice = s.notice := rfl
@[simp] theorem State.setSupply_pending (t : Supply) : (s.setSupply t).pending = s.pending := rfl

/-! ## setNotice -/

@[simp] theorem State.setNotice_now (t : NoticeUnit) : (s.setNotice t).now = s.now := rfl
@[simp] theorem State.setNotice_freeCount (t : NoticeUnit) :
    (s.setNotice t).freeCount = s.freeCount := rfl
@[simp] theorem State.setNotice_trunk (t : NoticeUnit) : (s.setNotice t).trunk = s.trunk := rfl
@[simp] theorem State.setNotice_store (t : NoticeUnit) : (s.setNotice t).store = s.store := rfl
@[simp] theorem State.setNotice_zone (t : NoticeUnit) : (s.setNotice t).zone = s.zone := rfl
@[simp] theorem State.setNotice_weather (t : NoticeUnit) :
    (s.setNotice t).weather = s.weather := rfl
@[simp] theorem State.setNotice_channels (t : NoticeUnit) :
    (s.setNotice t).channels = s.channels := rfl
@[simp] theorem State.setNotice_branch (t : NoticeUnit) : (s.setNotice t).branch = s.branch := rfl
@[simp] theorem State.setNotice_supply (t : NoticeUnit) : (s.setNotice t).supply = s.supply := rfl
@[simp] theorem State.setNotice_notice (t : NoticeUnit) : (s.setNotice t).notice = t := rfl
@[simp] theorem State.setNotice_pending (t : NoticeUnit) :
    (s.setNotice t).pending = s.pending := rfl

/-! ## setPending -/

@[simp] theorem State.setPending_now (q : List Instr) : (s.setPending q).now = s.now := rfl
@[simp] theorem State.setPending_freeCount (q : List Instr) :
    (s.setPending q).freeCount = s.freeCount := rfl
@[simp] theorem State.setPending_trunk (q : List Instr) : (s.setPending q).trunk = s.trunk := rfl
@[simp] theorem State.setPending_store (q : List Instr) : (s.setPending q).store = s.store := rfl
@[simp] theorem State.setPending_zone (q : List Instr) : (s.setPending q).zone = s.zone := rfl
@[simp] theorem State.setPending_weather (q : List Instr) :
    (s.setPending q).weather = s.weather := rfl
@[simp] theorem State.setPending_channels (q : List Instr) :
    (s.setPending q).channels = s.channels := rfl
@[simp] theorem State.setPending_branch (q : List Instr) : (s.setPending q).branch = s.branch := rfl
@[simp] theorem State.setPending_supply (q : List Instr) : (s.setPending q).supply = s.supply := rfl
@[simp] theorem State.setPending_notice (q : List Instr) : (s.setPending q).notice = s.notice := rfl
@[simp] theorem State.setPending_pending (q : List Instr) : (s.setPending q).pending = q := rfl

/-! ## A block written with what it holds, and twice -/

@[simp] theorem State.setNow_self : s.setNow s.now = s := rfl
@[simp] theorem State.setNow_setNow (x y : Nat) : (s.setNow x).setNow y = s.setNow y := rfl
@[simp] theorem State.setFreeCount_self : s.setFreeCount s.freeCount = s := rfl
@[simp] theorem State.setFreeCount_setFreeCount (x y : Nat) :
    (s.setFreeCount x).setFreeCount y = s.setFreeCount y := rfl
@[simp] theorem State.setTrunk_self : s.setTrunk s.trunk = s := rfl
@[simp] theorem State.setTrunk_setTrunk (x y : Trunk) :
    (s.setTrunk x).setTrunk y = s.setTrunk y := rfl
@[simp] theorem State.setStore_self : s.setStore s.store = s := rfl
@[simp] theorem State.setStore_setStore (x y : Store) :
    (s.setStore x).setStore y = s.setStore y := rfl
@[simp] theorem State.setZone_self : s.setZone s.zone = s := rfl
@[simp] theorem State.setZone_setZone (x y : ZoneUnit) :
    (s.setZone x).setZone y = s.setZone y := rfl
@[simp] theorem State.setWeather_self : s.setWeather s.weather = s := rfl
@[simp] theorem State.setWeather_setWeather (x y : WeatherRuntime) :
    (s.setWeather x).setWeather y = s.setWeather y := rfl
@[simp] theorem State.setChannels_self : s.setChannels s.channels = s := rfl
@[simp] theorem State.setChannels_setChannels (x y : Table Channel 16) :
    (s.setChannels x).setChannels y = s.setChannels y := rfl
@[simp] theorem State.setBranch_self : s.setBranch s.branch = s := rfl
@[simp] theorem State.setBranch_setBranch (x y : Branch) :
    (s.setBranch x).setBranch y = s.setBranch y := rfl
@[simp] theorem State.setSupply_self : s.setSupply s.supply = s := rfl
@[simp] theorem State.setSupply_setSupply (x y : Supply) :
    (s.setSupply x).setSupply y = s.setSupply y := rfl
@[simp] theorem State.setNotice_self : s.setNotice s.notice = s := rfl
@[simp] theorem State.setNotice_setNotice (x y : NoticeUnit) :
    (s.setNotice x).setNotice y = s.setNotice y := rfl
@[simp] theorem State.setPending_self : s.setPending s.pending = s := rfl
@[simp] theorem State.setPending_setPending (x y : List Instr) :
    (s.setPending x).setPending y = s.setPending y := rfl

/-! ## Updates of a part of a block -/

@[simp] theorem State.setPort_trunk (p : TrunkPort) (x : Port) :
    (s.setPort p x).trunk = s.trunk.setPort x p := rfl
@[simp] theorem State.setPort_now (p : TrunkPort) (x : Port) : (s.setPort p x).now = s.now := rfl
@[simp] theorem State.setPort_freeCount (p : TrunkPort) (x : Port) :
    (s.setPort p x).freeCount = s.freeCount := rfl
@[simp] theorem State.setPort_store (p : TrunkPort) (x : Port) :
    (s.setPort p x).store = s.store := rfl
@[simp] theorem State.setPort_zone (p : TrunkPort) (x : Port) : (s.setPort p x).zone = s.zone := rfl
@[simp] theorem State.setPort_weather (p : TrunkPort) (x : Port) :
    (s.setPort p x).weather = s.weather := rfl
@[simp] theorem State.setPort_channels (p : TrunkPort) (x : Port) :
    (s.setPort p x).channels = s.channels := rfl
@[simp] theorem State.setPort_branch (p : TrunkPort) (x : Port) :
    (s.setPort p x).branch = s.branch := rfl
@[simp] theorem State.setPort_supply (p : TrunkPort) (x : Port) :
    (s.setPort p x).supply = s.supply := rfl
@[simp] theorem State.setPort_notice (p : TrunkPort) (x : Port) :
    (s.setPort p x).notice = s.notice := rfl
@[simp] theorem State.setPort_pending (p : TrunkPort) (x : Port) :
    (s.setPort p x).pending = s.pending := rfl

@[simp] theorem State.setZoneRuntime_zone (z : ZoneNo) (r : ZoneRuntime) :
    (s.setZoneRuntime z r).zone = { s.zone with zones := s.zone.zones.set z r } := rfl
@[simp] theorem State.setZoneRuntime_now (z : ZoneNo) (r : ZoneRuntime) :
    (s.setZoneRuntime z r).now = s.now := rfl
@[simp] theorem State.setZoneRuntime_freeCount (z : ZoneNo) (r : ZoneRuntime) :
    (s.setZoneRuntime z r).freeCount = s.freeCount := rfl
@[simp] theorem State.setZoneRuntime_trunk (z : ZoneNo) (r : ZoneRuntime) :
    (s.setZoneRuntime z r).trunk = s.trunk := rfl
@[simp] theorem State.setZoneRuntime_store (z : ZoneNo) (r : ZoneRuntime) :
    (s.setZoneRuntime z r).store = s.store := rfl
@[simp] theorem State.setZoneRuntime_weather (z : ZoneNo) (r : ZoneRuntime) :
    (s.setZoneRuntime z r).weather = s.weather := rfl
@[simp] theorem State.setZoneRuntime_channels (z : ZoneNo) (r : ZoneRuntime) :
    (s.setZoneRuntime z r).channels = s.channels := rfl
@[simp] theorem State.setZoneRuntime_branch (z : ZoneNo) (r : ZoneRuntime) :
    (s.setZoneRuntime z r).branch = s.branch := rfl
@[simp] theorem State.setZoneRuntime_supply (z : ZoneNo) (r : ZoneRuntime) :
    (s.setZoneRuntime z r).supply = s.supply := rfl
@[simp] theorem State.setZoneRuntime_notice (z : ZoneNo) (r : ZoneRuntime) :
    (s.setZoneRuntime z r).notice = s.notice := rfl
@[simp] theorem State.setZoneRuntime_pending (z : ZoneNo) (r : ZoneRuntime) :
    (s.setZoneRuntime z r).pending = s.pending := rfl

@[simp] theorem State.mapChannels_now (f : ChannelNo → ChannelRecord → Channel → Channel) :
    (s.mapChannels f).now = s.now := rfl
@[simp] theorem State.mapChannel_now (n : ChannelNo) (f : ChannelRecord → Channel → Channel) :
    (s.mapChannel n f).now = s.now := rfl
@[simp] theorem State.mapChannels_freeCount (f : ChannelNo → ChannelRecord → Channel → Channel) :
    (s.mapChannels f).freeCount = s.freeCount := rfl
@[simp] theorem State.mapChannel_freeCount (n : ChannelNo) (f : ChannelRecord → Channel → Channel) :
    (s.mapChannel n f).freeCount = s.freeCount := rfl
@[simp] theorem State.mapChannels_trunk (f : ChannelNo → ChannelRecord → Channel → Channel) :
    (s.mapChannels f).trunk = s.trunk := rfl
@[simp] theorem State.mapChannel_trunk (n : ChannelNo) (f : ChannelRecord → Channel → Channel) :
    (s.mapChannel n f).trunk = s.trunk := rfl
@[simp] theorem State.mapChannels_store (f : ChannelNo → ChannelRecord → Channel → Channel) :
    (s.mapChannels f).store = s.store := rfl
@[simp] theorem State.mapChannel_store (n : ChannelNo) (f : ChannelRecord → Channel → Channel) :
    (s.mapChannel n f).store = s.store := rfl
@[simp] theorem State.mapChannels_zone (f : ChannelNo → ChannelRecord → Channel → Channel) :
    (s.mapChannels f).zone = s.zone := rfl
@[simp] theorem State.mapChannel_zone (n : ChannelNo) (f : ChannelRecord → Channel → Channel) :
    (s.mapChannel n f).zone = s.zone := rfl
@[simp] theorem State.mapChannels_weather (f : ChannelNo → ChannelRecord → Channel → Channel) :
    (s.mapChannels f).weather = s.weather := rfl
@[simp] theorem State.mapChannel_weather (n : ChannelNo) (f : ChannelRecord → Channel → Channel) :
    (s.mapChannel n f).weather = s.weather := rfl
@[simp] theorem State.mapChannels_branch (f : ChannelNo → ChannelRecord → Channel → Channel) :
    (s.mapChannels f).branch = s.branch := rfl
@[simp] theorem State.mapChannel_branch (n : ChannelNo) (f : ChannelRecord → Channel → Channel) :
    (s.mapChannel n f).branch = s.branch := rfl
@[simp] theorem State.mapChannels_supply (f : ChannelNo → ChannelRecord → Channel → Channel) :
    (s.mapChannels f).supply = s.supply := rfl
@[simp] theorem State.mapChannel_supply (n : ChannelNo) (f : ChannelRecord → Channel → Channel) :
    (s.mapChannel n f).supply = s.supply := rfl
@[simp] theorem State.mapChannels_notice (f : ChannelNo → ChannelRecord → Channel → Channel) :
    (s.mapChannels f).notice = s.notice := rfl
@[simp] theorem State.mapChannel_notice (n : ChannelNo) (f : ChannelRecord → Channel → Channel) :
    (s.mapChannel n f).notice = s.notice := rfl
@[simp] theorem State.mapChannels_pending (f : ChannelNo → ChannelRecord → Channel → Channel) :
    (s.mapChannels f).pending = s.pending := rfl
@[simp] theorem State.mapChannel_pending (n : ChannelNo) (f : ChannelRecord → Channel → Channel) :
    (s.mapChannel n f).pending = s.pending := rfl

/-! ## What is read through an update -/

@[simp] theorem Trunk.port_setPort_self (t : Trunk) (p : TrunkPort) (x : Port) :
    (t.setPort x p).port p = x := by cases p <;> rfl

@[simp] theorem Trunk.port_setPort_other (t : Trunk) (p : TrunkPort) (x : Port) :
    (t.setPort x p).port (otherPort p) = t.port (otherPort p) := by cases p <;> rfl

@[simp] theorem Trunk.setPort_address (t : Trunk) (p : TrunkPort) (x : Port) :
    (t.setPort x p).address = t.address := by cases p <;> rfl

@[simp] theorem Trunk.setPort_rate (t : Trunk) (p : TrunkPort) (x : Port) :
    (t.setPort x p).rate = t.rate := by cases p <;> rfl

@[simp] theorem Trunk.setPort_pendingReset (t : Trunk) (p : TrunkPort) (x : Port) :
    (t.setPort x p).pendingReset = t.pendingReset := by cases p <;> rfl

@[simp] theorem Trunk.setPort_period (t : Trunk) (p : TrunkPort) (x : Port) :
    (t.setPort x p).period = t.period := by cases p <;> rfl

@[simp] theorem otherPort_otherPort (p : TrunkPort) : otherPort (otherPort p) = p := by
  cases p <;> rfl

theorem otherPort_ne (p : TrunkPort) : otherPort p ≠ p := by cases p <;> decide

end Sys2Proof.Machine
end

