-- ==== Sys2Proof/Laws/Table.lean ====
section
/-! SUPPORT. What is read from a table after each of its updates. -/

namespace Sys2Proof.Table

variable {α β : Type} {n : Nat}

@[simp] theorem get_set_self (t : Table α n) (i : Fin n) (a : α) : (t.set i a).get i = a := by
  simp [get, set]

theorem get_set_ne (t : Table α n) {i j : Fin n} (a : α) (h : j ≠ i) :
    (t.set i a).get j = t.get j := by
  have : i.1 ≠ j.1 := fun e => h (Fin.ext e.symm)
  simp [get, set, this]

theorem get_set (t : Table α n) (i j : Fin n) (a : α) :
    (t.set i a).get j = if j = i then a else t.get j := by
  by_cases h : j = i
  · subst h; simp
  · simp [h, get_set_ne]

@[simp] theorem get_build (f : Fin n → β) (i : Fin n) : (build f).get i = f i := by
  simp [get, build]

@[simp] theorem get_mapIdx (t : Table α n) (f : Fin n → α → β) (i : Fin n) :
    (t.mapIdx f).get i = f i (t.get i) := by
  simp [mapIdx]

@[simp] theorem get_fill (a : α) (i : Fin n) : (fill a : Table α n).get i = a := by
  simp [get, fill]

theorem get_modify (t : Table α n) (i j : Fin n) (f : α → α) :
    (t.modify i f).get j = if j = i then f (t.get i) else t.get j := by
  simp [modify, get_set]

@[simp] theorem get_modify_self (t : Table α n) (i : Fin n) (f : α → α) :
    (t.modify i f).get i = f (t.get i) := by
  simp [modify]

/-- Tables that agree at every index are equal. -/
theorem ext {t u : Table α n} (h : ∀ i, t.get i = u.get i) : t = u := by
  obtain ⟨a, ha⟩ := t
  obtain ⟨b, hb⟩ := u
  have : a = b := by
    apply List.ext_getElem (by omega)
    intro i h1 h2
    exact h ⟨i, by omega⟩
  subst this
  rfl

end Sys2Proof.Table
end

