-- ==== Sys2Proof/Laws/Ops.lean ====
section
/-! SUPPORT. For each shared operation on the whole state: the blocks it leaves as they are, and what it
leaves in the others. -/

namespace Sys2Proof.Machine

variable (s : State)

/-! ## Notices and line errors -/

@[simp] theorem State.raise_now (x : Notice) : (s.raise x).now = s.now := rfl
@[simp] theorem State.raise_freeCount (x : Notice) : (s.raise x).freeCount = s.freeCount := rfl
@[simp] theorem State.raise_trunk (x : Notice) : (s.raise x).trunk = s.trunk := rfl
@[simp] theorem State.raise_store (x : Notice) : (s.raise x).store = s.store := rfl
@[simp] theorem State.raise_zone (x : Notice) : (s.raise x).zone = s.zone := rfl
@[simp] theorem State.raise_weather (x : Notice) : (s.raise x).weather = s.weather := rfl
@[simp] theorem State.raise_channels (x : Notice) : (s.raise x).channels = s.channels := rfl
@[simp] theorem State.raise_branch (x : Notice) : (s.raise x).branch = s.branch := rfl
@[simp] theorem State.raise_supply (x : Notice) : (s.raise x).supply = s.supply := rfl
@[simp] theorem State.raise_pending (x : Notice) : (s.raise x).pending = s.pending := rfl

theorem State.raise_eq (x : Notice) : s.raise x = s.setNotice (s.notice.raise s.node x) := rfl

@[simp] theorem State.raiseOption_now (x : Option Notice) :
    (s.raiseOption x).now = s.now := by cases x <;> rfl
@[simp] theorem State.raiseOption_freeCount (x : Option Notice) :
    (s.raiseOption x).freeCount = s.freeCount := by cases x <;> rfl
@[simp] theorem State.raiseOption_trunk (x : Option Notice) :
    (s.raiseOption x).trunk = s.trunk := by cases x <;> rfl
@[simp] theorem State.raiseOption_store (x : Option Notice) :
    (s.raiseOption x).store = s.store := by cases x <;> rfl
@[simp] theorem State.raiseOption_zone (x : Option Notice) :
    (s.raiseOption x).zone = s.zone := by cases x <;> rfl
@[simp] theorem State.raiseOption_weather (x : Option Notice) :
    (s.raiseOption x).weather = s.weather := by cases x <;> rfl
@[simp] theorem State.raiseOption_channels (x : Option Notice) :
    (s.raiseOption x).channels = s.channels := by cases x <;> rfl
@[simp] theorem State.raiseOption_branch (x : Option Notice) :
    (s.raiseOption x).branch = s.branch := by cases x <;> rfl
@[simp] theorem State.raiseOption_supply (x : Option Notice) :
    (s.raiseOption x).supply = s.supply := by cases x <;> rfl
@[simp] theorem State.raiseOption_pending (x : Option Notice) :
    (s.raiseOption x).pending = s.pending := by cases x <;> rfl

@[simp] theorem State.logError_now (k : ErrorKind) (p : ErrorPort) (c : Captured) :
    (s.logError k p c).now = s.now := by
  unfold State.logError; split <;> rfl
@[simp] theorem State.logError_freeCount (k : ErrorKind) (p : ErrorPort) (c : Captured) :
    (s.logError k p c).freeCount = s.freeCount := by
  unfold State.logError; split <;> rfl
@[simp] theorem State.logError_trunk (k : ErrorKind) (p : ErrorPort) (c : Captured) :
    (s.logError k p c).trunk = s.trunk := by
  unfold State.logError; split <;> rfl
@[simp] theorem State.logError_store (k : ErrorKind) (p : ErrorPort) (c : Captured) :
    (s.logError k p c).store = s.store := by
  unfold State.logError; split <;> rfl
@[simp] theorem State.logError_zone (k : ErrorKind) (p : ErrorPort) (c : Captured) :
    (s.logError k p c).zone = s.zone := by
  unfold State.logError; split <;> rfl
@[simp] theorem State.logError_weather (k : ErrorKind) (p : ErrorPort) (c : Captured) :
    (s.logError k p c).weather = s.weather := by
  unfold State.logError; split <;> rfl
@[simp] theorem State.logError_channels (k : ErrorKind) (p : ErrorPort) (c : Captured) :
    (s.logError k p c).channels = s.channels := by
  unfold State.logError; split <;> rfl
@[simp] theorem State.logError_branch (k : ErrorKind) (p : ErrorPort) (c : Captured) :
    (s.logError k p c).branch = s.branch := by
  unfold State.logError; split <;> rfl
@[simp] theorem State.logError_supply (k : ErrorKind) (p : ErrorPort) (c : Captured) :
    (s.logError k p c).supply = s.supply := by
  unfold State.logError; split <;> rfl
@[simp] theorem State.logError_pending (k : ErrorKind) (p : ErrorPort) (c : Captured) :
    (s.logError k p c).pending = s.pending := by
  unfold State.logError; split <;> rfl

@[simp] theorem State.logFrame_now (k : ErrorKind) (p : TrunkPort) (f : Frame) :
    (s.logFrame k p f).now = s.now := by
  simp [State.logFrame]
@[simp] theorem State.logFrame_freeCount (k : ErrorKind) (p : TrunkPort) (f : Frame) :
    (s.logFrame k p f).freeCount = s.freeCount := by
  simp [State.logFrame]
@[simp] theorem State.logFrame_trunk (k : ErrorKind) (p : TrunkPort) (f : Frame) :
    (s.logFrame k p f).trunk = s.trunk := by
  simp [State.logFrame]
@[simp] theorem State.logFrame_store (k : ErrorKind) (p : TrunkPort) (f : Frame) :
    (s.logFrame k p f).store = s.store := by
  simp [State.logFrame]
@[simp] theorem State.logFrame_zone (k : ErrorKind) (p : TrunkPort) (f : Frame) :
    (s.logFrame k p f).zone = s.zone := by
  simp [State.logFrame]
@[simp] theorem State.logFrame_weather (k : ErrorKind) (p : TrunkPort) (f : Frame) :
    (s.logFrame k p f).weather = s.weather := by
  simp [State.logFrame]
@[simp] theorem State.logFrame_channels (k : ErrorKind) (p : TrunkPort) (f : Frame) :
    (s.logFrame k p f).channels = s.channels := by
  simp [State.logFrame]
@[simp] theorem State.logFrame_branch (k : ErrorKind) (p : TrunkPort) (f : Frame) :
    (s.logFrame k p f).branch = s.branch := by
  simp [State.logFrame]
@[simp] theorem State.logFrame_supply (k : ErrorKind) (p : TrunkPort) (f : Frame) :
    (s.logFrame k p f).supply = s.supply := by
  simp [State.logFrame]
@[simp] theorem State.logFrame_pending (k : ErrorKind) (p : TrunkPort) (f : Frame) :
    (s.logFrame k p f).pending = s.pending := by
  simp [State.logFrame]

/-! ## Channels -/

theorem State.mapChannels_get (f : ChannelNo → ChannelRecord → Channel → Channel) (n : ChannelNo) :
    (s.mapChannels f).channels.get n = f n (s.record n) (s.channels.get n) := by
  simp [State.mapChannels]

theorem State.mapChannel_get (n m : ChannelNo) (f : ChannelRecord → Channel → Channel) :
    (s.mapChannel n f).channels.get m
      = if m = n then f (s.record n) (s.channels.get n) else s.channels.get m := by
  simp [State.mapChannel, Table.get_modify]

theorem State.mapChannels_eq (f : ChannelNo → ChannelRecord → Channel → Channel) :
    s.mapChannels f = s.setChannels (s.mapChannels f).channels := rfl

theorem State.mapChannel_eq (n : ChannelNo) (f : ChannelRecord → Channel → Channel) :
    s.mapChannel n f = s.setChannels (s.mapChannel n f).channels := rfl

/-- A cell reads back as it was written, and the others as before. -/
@[simp] theorem Stack.get_set_self (st : Stack) (cell : Option Cell) (l : Layer) :
    (st.set cell l).get l = cell := by cases l <;> rfl

theorem Stack.get_set_ne (st : Stack) (cell : Option Cell) {l k : Layer} (h : k ≠ l) :
    (st.set cell l).get k = st.get k := by cases l <;> cases k <;> first | rfl | exact absurd rfl h

/-- Writing the cell a stack already has changes nothing. -/
theorem Stack.set_get (st : Stack) (l : Layer) : st.set (st.get l) l = st := by cases l <;> rfl

/-- What a hand-over and a composition leave as they were. -/
@[simp] theorem Channel.recompose_stack (ctx : Ctx) (rec : ChannelRecord) (c : Channel) :
    (c.recompose ctx rec).stack = c.stack := rfl

@[simp] theorem Channel.recompose_binding (ctx : Ctx) (rec : ChannelRecord) (c : Channel) :
    (c.recompose ctx rec).binding = c.binding := rfl

@[simp] theorem Channel.recompose_result (ctx : Ctx) (rec : ChannelRecord) (c : Channel) :
    (c.recompose ctx rec).result = some (compose ctx.set ctx.weather rec c.stack) := rfl

/-- A hand-over of the recorded result itself marks nothing as changed and does nothing (R20). -/
@[simp] theorem Engine.handOver_self (ctx : Ctx) (rec : ChannelRecord) (r : Result) (e : Engine) :
    e.handOver ctx rec (some r) r = e := by
  simp [Engine.handOver]

/-- Composing a channel whose result is the composition of its inputs leaves it as it is (R19). -/
theorem Channel.recompose_composed (ctx : Ctx) (rec : ChannelRecord) (c : Channel)
    (h : c.result = some (compose ctx.set ctx.weather rec c.stack)) : c.recompose ctx rec = c := by
  unfold Channel.recompose
  simp only [h, Engine.handOver_self]
  rw [← h]

/-! ### Placing a cell (R1, R2) -/

/-- A cell placed on a channel not in use is not kept (R2). -/
theorem Channel.place_unused (rec : ChannelRecord) (l : Layer) (cell : Option Cell) (c : Channel)
    (h : rec.inUse = false) : c.place rec l cell = c := by
  simp [Channel.place, h]

/-- On an in-use channel the stack holds the cell placed, and nothing else changes. -/
theorem Channel.place_used (rec : ChannelRecord) (l : Layer) (cell : Option Cell) (c : Channel)
    (h : rec.inUse = true) : c.place rec l cell = { c with stack := c.stack.set cell l } := by
  simp [Channel.place, h]

@[simp] theorem Channel.place_result (rec : ChannelRecord) (l : Layer) (cell : Option Cell)
    (c : Channel) : (c.place rec l cell).result = c.result := by
  unfold Channel.place; split <;> rfl

@[simp] theorem Channel.place_engine (rec : ChannelRecord) (l : Layer) (cell : Option Cell)
    (c : Channel) : (c.place rec l cell).engine = c.engine := by
  unfold Channel.place; split <;> rfl

@[simp] theorem Channel.place_binding (rec : ChannelRecord) (l : Layer) (cell : Option Cell)
    (c : Channel) : (c.place rec l cell).binding = c.binding := by
  unfold Channel.place; split <;> rfl

/-! ### Settling a channel (R18 to R20) -/

@[simp] theorem Channel.settle_stack (ctx : Ctx) (rec : ChannelRecord) (wind : Bool) (old : Stack)
    (c : Channel) : (c.settle ctx rec wind old).stack = c.stack := by
  unfold Channel.settle; split <;> rfl

@[simp] theorem Channel.settle_binding (ctx : Ctx) (rec : ChannelRecord) (wind : Bool) (old : Stack)
    (c : Channel) : (c.settle ctx rec wind old).binding = c.binding := by
  unfold Channel.settle; split <;> rfl

theorem Channel.settle_unused (ctx : Ctx) (rec : ChannelRecord) (wind : Bool) (old : Stack)
    (c : Channel) (h : rec.inUse = false) : c.settle ctx rec wind old = c := by
  simp [Channel.settle, h]

/-- A channel whose inputs the event left as they were is not composed (R18). -/
@[simp] theorem Channel.settle_same (ctx : Ctx) (rec : ChannelRecord) (c : Channel) :
    c.settle ctx rec false c.stack = c := by
  simp [Channel.settle]

/-- A channel whose result is the composition of its inputs is settled already. -/
theorem Channel.settle_composed (ctx : Ctx) (rec : ChannelRecord) (wind : Bool) (old : Stack)
    (c : Channel) (h : c.result = some (compose ctx.set ctx.weather rec c.stack)) :
    c.settle ctx rec wind old = c := by
  unfold Channel.settle
  split
  · exact c.recompose_composed ctx rec h
  · rfl

/-- Settled once, an in-use channel that was changed, or that was composed before, has the composition
of its inputs as result (R18). -/
theorem Channel.settle_result (ctx : Ctx) (rec : ChannelRecord) (wind : Bool) (old : Stack)
    (c : Channel) (hu : rec.inUse = true)
    (hc : c.stack = old → wind = false →
      c.result = some (compose ctx.set ctx.weather rec c.stack)) :
    (c.settle ctx rec wind old).result = some (compose ctx.set ctx.weather rec c.stack) := by
  unfold Channel.settle
  split
  · rfl
  · rename_i h
    simp only [hu, true_and, not_or, not_not, Bool.not_eq_true] at h
    exact hc h.1 h.2

/-! ### An event that changes one cell -/

/-- A write to a channel not in use is not kept (R2). -/
theorem Channel.write_unused (ctx : Ctx) (rec : ChannelRecord) (l : Layer) (cell : Option Cell)
    (c : Channel) (h : rec.inUse = false) : c.write ctx rec l cell = c := by
  simp [Channel.write, Channel.place_unused _ _ _ _ h]

/-- After a write to an in-use channel the stack holds the cell written. -/
theorem Channel.write_stack (ctx : Ctx) (rec : ChannelRecord) (l : Layer) (cell : Option Cell)
    (c : Channel) (h : rec.inUse = true) :
    (c.write ctx rec l cell).stack = c.stack.set cell l := by
  simp [Channel.write, Channel.place_used _ _ _ _ h]

@[simp] theorem Channel.write_binding (ctx : Ctx) (rec : ChannelRecord) (l : Layer)
    (cell : Option Cell) (c : Channel) : (c.write ctx rec l cell).binding = c.binding := by
  simp [Channel.write]

/-- Writing the cell a channel already has does nothing (R1). -/
theorem Channel.write_same (ctx : Ctx) (rec : ChannelRecord) (l : Layer) (c : Channel) :
    c.write ctx rec l (c.stack.get l) = c := by
  unfold Channel.write Channel.place
  simp [Stack.set_get]

/-- A write composes the channel unless the cell was already there (R1). -/
theorem Channel.write_result (ctx : Ctx) (rec : ChannelRecord) (l : Layer) (cell : Option Cell)
    (c : Channel) (hu : rec.inUse = true)
    (hc : c.result = some (compose ctx.set ctx.weather rec c.stack)) :
    (c.write ctx rec l cell).result
      = some (compose ctx.set ctx.weather rec (c.write ctx rec l cell).stack) := by
  have h := Channel.settle_result ctx rec false c.stack (c.place rec l cell) hu
    (fun e _ => by rw [Channel.place_result, e]; exact hc)
  simpa [Channel.write] using h

/-! ### Settling the part -/

theorem State.settle_get (old : State) (n : ChannelNo) :
    (s.settle old).channels.get n
      = (s.channels.get n).settle s.ctx (s.record n) (old.weather.windChanged s.weather)
          (old.channels.get n).stack := by
  simp [State.settle, State.mapChannels_get]

theorem State.settle_eq (old : State) : s.settle old = s.setChannels (s.settle old).channels := rfl

@[simp] theorem WeatherRuntime.windChanged_self (w : WeatherRuntime) : w.windChanged w = false := by
  simp [WeatherRuntime.windChanged]

/-- An event that changes nothing settles to the state it began in. -/
@[simp] theorem State.settle_self : s.settle s = s := by
  have h : (s.settle s).channels = s.channels := Table.ext fun n => by simp [State.settle_get]
  rw [State.settle_eq, h]
  rfl

@[simp] theorem State.settle_now (old : State) :
    (s.settle old).now = s.now := rfl
@[simp] theorem State.settle_freeCount (old : State) :
    (s.settle old).freeCount = s.freeCount := rfl
@[simp] theorem State.settle_trunk (old : State) :
    (s.settle old).trunk = s.trunk := rfl
@[simp] theorem State.settle_store (old : State) :
    (s.settle old).store = s.store := rfl
@[simp] theorem State.settle_zone (old : State) :
    (s.settle old).zone = s.zone := rfl
@[simp] theorem State.settle_weather (old : State) :
    (s.settle old).weather = s.weather := rfl
@[simp] theorem State.settle_branch (old : State) :
    (s.settle old).branch = s.branch := rfl
@[simp] theorem State.settle_supply (old : State) :
    (s.settle old).supply = s.supply := rfl
@[simp] theorem State.settle_notice (old : State) :
    (s.settle old).notice = s.notice := rfl
@[simp] theorem State.settle_pending (old : State) :
    (s.settle old).pending = s.pending := rfl
/-! ## Zones, supervision, weather, supply -/

@[simp] theorem State.recomputeSmoke_now (z : ZoneNo) : (s.recomputeSmoke z).now = s.now := rfl
@[simp] theorem State.recomputeSmoke_freeCount (z : ZoneNo) :
    (s.recomputeSmoke z).freeCount = s.freeCount := rfl
@[simp] theorem State.recomputeSmoke_trunk (z : ZoneNo) :
    (s.recomputeSmoke z).trunk = s.trunk := rfl
@[simp] theorem State.recomputeSmoke_store (z : ZoneNo) :
    (s.recomputeSmoke z).store = s.store := rfl
@[simp] theorem State.recomputeSmoke_zone (z : ZoneNo) : (s.recomputeSmoke z).zone = s.zone := rfl
@[simp] theorem State.recomputeSmoke_weather (z : ZoneNo) :
    (s.recomputeSmoke z).weather = s.weather := rfl
@[simp] theorem State.recomputeSmoke_branch (z : ZoneNo) :
    (s.recomputeSmoke z).branch = s.branch := rfl
@[simp] theorem State.recomputeSmoke_supply (z : ZoneNo) :
    (s.recomputeSmoke z).supply = s.supply := rfl
@[simp] theorem State.recomputeSmoke_notice (z : ZoneNo) :
    (s.recomputeSmoke z).notice = s.notice := rfl
@[simp] theorem State.recomputeSmoke_pending (z : ZoneNo) :
    (s.recomputeSmoke z).pending = s.pending := rfl

@[simp] theorem State.placeFallback_now :
    (s.placeFallback).now = s.now := rfl
@[simp] theorem State.placeFallback_freeCount :
    (s.placeFallback).freeCount = s.freeCount := rfl
@[simp] theorem State.placeFallback_trunk :
    (s.placeFallback).trunk = s.trunk := rfl
@[simp] theorem State.placeFallback_store :
    (s.placeFallback).store = s.store := rfl
@[simp] theorem State.placeFallback_zone :
    (s.placeFallback).zone = s.zone := rfl
@[simp] theorem State.placeFallback_weather :
    (s.placeFallback).weather = s.weather := rfl
@[simp] theorem State.placeFallback_branch :
    (s.placeFallback).branch = s.branch := rfl
@[simp] theorem State.placeFallback_supply :
    (s.placeFallback).supply = s.supply := rfl
@[simp] theorem State.placeFallback_notice :
    (s.placeFallback).notice = s.notice := rfl
@[simp] theorem State.placeFallback_pending :
    (s.placeFallback).pending = s.pending := rfl

@[simp] theorem State.contactAlarm_now : (s.contactAlarm).now = s.now := rfl
@[simp] theorem State.contactAlarm_freeCount : (s.contactAlarm).freeCount = s.freeCount := rfl
@[simp] theorem State.contactAlarm_trunk : (s.contactAlarm).trunk = s.trunk := rfl
@[simp] theorem State.contactAlarm_store : (s.contactAlarm).store = s.store := rfl
@[simp] theorem State.contactAlarm_weather : (s.contactAlarm).weather = s.weather := rfl
@[simp] theorem State.contactAlarm_branch : (s.contactAlarm).branch = s.branch := rfl
@[simp] theorem State.contactAlarm_supply : (s.contactAlarm).supply = s.supply := rfl
@[simp] theorem State.contactAlarm_pending : (s.contactAlarm).pending = s.pending := rfl

@[simp] theorem State.hear_now (src : Nat) :
    (s.hear src).now = s.now := by
  unfold State.hear; split <;> [split <;> [rfl; (split <;> rfl)]; rfl]
@[simp] theorem State.hear_freeCount (src : Nat) :
    (s.hear src).freeCount = s.freeCount := by
  unfold State.hear; split <;> [split <;> [rfl; (split <;> rfl)]; rfl]
@[simp] theorem State.hear_trunk (src : Nat) :
    (s.hear src).trunk = s.trunk := by
  unfold State.hear; split <;> [split <;> [rfl; (split <;> rfl)]; rfl]
@[simp] theorem State.hear_store (src : Nat) :
    (s.hear src).store = s.store := by
  unfold State.hear; split <;> [split <;> [rfl; (split <;> rfl)]; rfl]
@[simp] theorem State.hear_weather (src : Nat) :
    (s.hear src).weather = s.weather := by
  unfold State.hear; split <;> [split <;> [rfl; (split <;> rfl)]; rfl]
@[simp] theorem State.hear_branch (src : Nat) :
    (s.hear src).branch = s.branch := by
  unfold State.hear; split <;> [split <;> [rfl; (split <;> rfl)]; rfl]
@[simp] theorem State.hear_supply (src : Nat) :
    (s.hear src).supply = s.supply := by
  unfold State.hear; split <;> [split <;> [rfl; (split <;> rfl)]; rfl]
@[simp] theorem State.hear_notice (src : Nat) :
    (s.hear src).notice = s.notice := by
  unfold State.hear; split <;> [split <;> [rfl; (split <;> rfl)]; rfl]
@[simp] theorem State.hear_pending (src : Nat) :
    (s.hear src).pending = s.pending := by
  unfold State.hear; split <;> [split <;> [rfl; (split <;> rfl)]; rfl]

@[simp] theorem State.hear_zones (src : Nat) : (s.hear src).zone.zones = s.zone.zones := by
  unfold State.hear; split <;> [split <;> [rfl; (split <;> rfl)]; rfl]

@[simp] theorem State.hear_contact (src : Nat) : (s.hear src).zone.contact = s.zone.contact := by
  unfold State.hear; split <;> [split <;> [rfl; (split <;> rfl)]; rfl]

/-- A frame that is not the panel's changes nothing (R38). -/
theorem State.hear_other (src : Nat) (h : src ≠ s.node.panelAddress) : s.hear src = s := by
  simp [State.hear, h]

/-- What supervision makes of a channel before the event is settled (R38, R40): where the frame ends the
LOST state the F cell of an in-use channel goes. -/
theorem State.hear_get (src : Nat) (n : ChannelNo) :
    (s.hear src).channels.get n
      = if src = s.node.panelAddress ∧ s.zone.supervision.lost = true then
          (s.channels.get n).place (s.record n) .f none
        else s.channels.get n := by
  unfold State.hear
  by_cases h : src = s.node.panelAddress <;> simp only [h, if_true, if_false, true_and, false_and]
  cases hl : s.zone.supervision.lost
  · simp only [Bool.false_eq_true, if_false]; split <;> rfl
  · simp [State.placeFallback, State.mapChannels_get, fallbackCell, State.record]

@[simp] theorem State.supervise_now (src : Nat) :
    (s.supervise src).now = s.now := by simp [State.supervise]
@[simp] theorem State.supervise_freeCount (src : Nat) :
    (s.supervise src).freeCount = s.freeCount := by simp [State.supervise]
@[simp] theorem State.supervise_trunk (src : Nat) :
    (s.supervise src).trunk = s.trunk := by simp [State.supervise]
@[simp] theorem State.supervise_store (src : Nat) :
    (s.supervise src).store = s.store := by simp [State.supervise]
@[simp] theorem State.supervise_weather (src : Nat) :
    (s.supervise src).weather = s.weather := by simp [State.supervise]
@[simp] theorem State.supervise_branch (src : Nat) :
    (s.supervise src).branch = s.branch := by simp [State.supervise]
@[simp] theorem State.supervise_supply (src : Nat) :
    (s.supervise src).supply = s.supply := by simp [State.supervise]
@[simp] theorem State.supervise_notice (src : Nat) :
    (s.supervise src).notice = s.notice := by simp [State.supervise]
@[simp] theorem State.supervise_pending (src : Nat) :
    (s.supervise src).pending = s.pending := by simp [State.supervise]

@[simp] theorem State.supervise_zones (src : Nat) : (s.supervise src).zone.zones = s.zone.zones := by simp [State.supervise]

@[simp] theorem State.supervise_contact (src : Nat) :
    (s.supervise src).zone.contact = s.zone.contact := by simp [State.supervise]

/-- A frame that is not the panel's changes nothing (R38). -/
theorem State.supervise_other (src : Nat) (h : src ≠ s.node.panelAddress) : s.supervise src = s := by
  simp [State.supervise, State.hear_other s src h]

/-- A node reset that the frame's own event brings about leaves the same part whether or not supervision
saw the frame first: the two changes of the F cells join in the reset's one composition (R22, R43). -/
theorem State.supervise_nodeReset (src : Nat) : (s.supervise src).nodeReset = s.nodeReset := by
  have hr : ∀ n, (s.supervise src).record n = s.record n := fun n => by simp [State.record]
  have hc : (s.supervise src).nodeReset.channels = s.nodeReset.channels := Table.ext fun n => by
    simp only [State.nodeReset, Table.get_mapIdx, hr]
    cases hu : (s.record n).inUse
    · have : (s.supervise src).channels.get n = s.channels.get n := by
        rw [State.supervise, State.settle_get, Channel.settle_unused _ _ _ _ _ (by simpa [State.record] using hu),
          State.hear_get]
        split <;> simp [Channel.place_unused _ _ _ _ hu]
      simp [resetChannel, hu, this]
    · have hb : ((s.supervise src).channels.get n).stack.b = (s.channels.get n).stack.b := by
        rw [State.supervise, State.settle_get, Channel.settle_stack, State.hear_get]
        split
        · simp [Channel.place_used _ _ _ _ hu, Stack.set]
        · rfl
      simp [resetChannel, hu, resetStack, hb]
  have he : ∀ t : State, t.nodeReset = { t.nodeReset with channels := t.nodeReset.channels } := fun _ => rfl
  rw [he (s.supervise src), hc]
  simp [State.nodeReset]

@[simp] theorem State.changeWeather_now (w : WeatherRuntime) :
    (s.changeWeather w).now = s.now := rfl
@[simp] theorem State.changeWeather_freeCount (w : WeatherRuntime) :
    (s.changeWeather w).freeCount = s.freeCount := rfl
@[simp] theorem State.changeWeather_trunk (w : WeatherRuntime) :
    (s.changeWeather w).trunk = s.trunk := rfl
@[simp] theorem State.changeWeather_store (w : WeatherRuntime) :
    (s.changeWeather w).store = s.store := rfl
@[simp] theorem State.changeWeather_zone (w : WeatherRuntime) :
    (s.changeWeather w).zone = s.zone := rfl
@[simp] theorem State.changeWeather_branch (w : WeatherRuntime) :
    (s.changeWeather w).branch = s.branch := rfl
@[simp] theorem State.changeWeather_supply (w : WeatherRuntime) :
    (s.changeWeather w).supply = s.supply := rfl
@[simp] theorem State.changeWeather_notice (w : WeatherRuntime) :
    (s.changeWeather w).notice = s.notice := rfl
@[simp] theorem State.changeWeather_pending (w : WeatherRuntime) :
    (s.changeWeather w).pending = s.pending := rfl

@[simp] theorem State.changeWeather_weather (w : WeatherRuntime) :
    (s.changeWeather w).weather = w := rfl

@[simp] theorem State.changeSupply_now (u : Supply) :
    (s.changeSupply u).now = s.now := by
  unfold State.changeSupply; dsimp only; split <;> [rfl; (split <;> rfl)]
@[simp] theorem State.changeSupply_freeCount (u : Supply) :
    (s.changeSupply u).freeCount = s.freeCount := by
  unfold State.changeSupply; dsimp only; split <;> [rfl; (split <;> rfl)]
@[simp] theorem State.changeSupply_trunk (u : Supply) :
    (s.changeSupply u).trunk = s.trunk := by
  unfold State.changeSupply; dsimp only; split <;> [rfl; (split <;> rfl)]
@[simp] theorem State.changeSupply_store (u : Supply) :
    (s.changeSupply u).store = s.store := by
  unfold State.changeSupply; dsimp only; split <;> [rfl; (split <;> rfl)]
@[simp] theorem State.changeSupply_zone (u : Supply) :
    (s.changeSupply u).zone = s.zone := by
  unfold State.changeSupply; dsimp only; split <;> [rfl; (split <;> rfl)]
@[simp] theorem State.changeSupply_weather (u : Supply) :
    (s.changeSupply u).weather = s.weather := by
  unfold State.changeSupply; dsimp only; split <;> [rfl; (split <;> rfl)]
@[simp] theorem State.changeSupply_branch (u : Supply) :
    (s.changeSupply u).branch = s.branch := by
  unfold State.changeSupply; dsimp only; split <;> [rfl; (split <;> rfl)]
@[simp] theorem State.changeSupply_pending (u : Supply) :
    (s.changeSupply u).pending = s.pending := by
  unfold State.changeSupply; dsimp only; split <;> [rfl; (split <;> rfl)]

@[simp] theorem State.changeSupply_supply (u : Supply) : (s.changeSupply u).supply = u := by
  unfold State.changeSupply; dsimp only; split <;> [rfl; (split <;> rfl)]

theorem State.changeSupply_notice (u : Supply) :
    (s.changeSupply u).notice = s.notice.raise s.node (.supply u.state) := by
  unfold State.changeSupply; dsimp only; split <;> [rfl; (split <;> rfl)]

/-! ## Records read through an update -/

@[simp] theorem State.record_of_store (t : State) (n : ChannelNo) (h : t.store = s.store) :
    t.record n = s.record n := by
  simp [State.record, h]

end Sys2Proof.Machine
end

