-- ==== Sys2Proof/Laws/Event.lean ====
section
/-! SUPPORT. What an event that runs several blocks leaves: the commit has composed every channel itself, so
that settling after it changes nothing. -/

namespace Sys2Proof.Machine

/-- A supply change leaves stacks and results as they were. -/
theorem State.changeSupply_channel (s : State) (u : Supply) (n : ChannelNo) :
    ((s.changeSupply u).channels.get n).stack = (s.channels.get n).stack
      ∧ ((s.changeSupply u).channels.get n).result = (s.channels.get n).result := by
  have back : ∀ (ctx : Ctx) (rec : ChannelRecord) (c : Channel),
      (c.supplyBack ctx rec).stack = c.stack ∧ (c.supplyBack ctx rec).result = c.result := by
    intro ctx rec c
    unfold Channel.supplyBack Channel.moveTest
    split
    · split <;> exact ⟨rfl, rfl⟩
    · exact ⟨rfl, rfl⟩
  unfold State.changeSupply
  dsimp only
  split
  · rw [State.mapChannels_get]; exact ⟨rfl, rfl⟩
  · split
    · rw [State.mapChannels_get]; exact back _ _ _
    · exact ⟨rfl, rfl⟩

/-- After an accepted commit every in-use channel has the composition of its inputs as result (R21). -/
theorem State.commit_composed (s : State) (new : ConfigSet) (n : ChannelNo)
    (h : ((s.commit new).record n).inUse = true) :
    ((s.commit new).channels.get n).result
      = some (compose (s.commit new).store.active (s.commit new).weather ((s.commit new).record n)
          ((s.commit new).channels.get n).stack) := by
  have store : (s.commit new).store.active = new := by
    unfold State.commit State.commitSupply; dsimp only; split <;> simp
  have weather :
      (s.commit new).weather = s.weather.commit s.now s.store.active.weather new.weather := by
    unfold State.commit State.commitSupply; dsimp only; split <;> simp
  rw [State.record, store] at h
  rw [State.record, store, weather]
  unfold State.commit State.commitSupply
  dsimp only
  split
  · simp only [(State.changeSupply_channel _ _ n).1, (State.changeSupply_channel _ _ n).2]
    simp [commitChannel, h]
  · simp [commitChannel, h]

/-- A commit needs no settling: it has composed and handed over every channel once (R21, R42). -/
theorem State.settle_commit (s old : State) (new : ConfigSet) :
    (s.commit new).settle old = s.commit new := by
  have h : ((s.commit new).settle old).channels = (s.commit new).channels := Table.ext fun n => by
    rw [State.settle_get]
    cases hu : ((s.commit new).record n).inUse
    · exact Channel.settle_unused _ _ _ _ _ hu
    · exact Channel.settle_composed _ _ _ _ _ (s.commit_composed new n hu)
  rw [State.settle_eq, h]
  rfl

end Sys2Proof.Machine
end

