-- ==== Sys2Proof/Laws/PerInstr.lean ====
section
/-! SUPPORT. The per-command family: a well-formed command that is a trunk frame is a frame in form, so
that its characters pass R151's form check. -/

namespace Sys2Proof.Laws.FrameInForm

open Sys2Proof.Machine

/-- The frame of a well-formed command, if it is one, has every field in range. -/
def Statement (i : Instr) : Prop :=
  i.wellFormed = true → ∀ (p : TrunkPort) (f : Frame), frameOf i = some (p, f) → f.InForm

/-- A frame under a header in range whose payload fits. -/
theorem of_header {rx : Rx} (h : rx.wellFormed = true) (kind : Byte) {payload : List Byte}
    (hp : payload.length ≤ 48) :
    Frame.InForm ⟨kind, rx.dst, rx.src, rx.hop, rx.seq, payload⟩ := by
  simp only [Rx.wellFormed, Bool.and_eq_true, decide_eq_true_eq] at h
  exact ⟨h.1.1.1.1, h.1.1.1.2, h.1.1.2, h.1.2, h.2, hp⟩

theorem powerOn (address : Nat) (rate : LineRate) (contact : Level) : Statement (.powerOn address rate contact) := by
  rintro - p f ⟨⟩

theorem linkDown (port : TrunkPort) : Statement (.linkDown port) := by
  rintro - p f ⟨⟩

theorem linkUp (port : TrunkPort) : Statement (.linkUp port) := by
  rintro - p f ⟨⟩

theorem frameReception (port : TrunkPort) (period : Nat) (chars : List Byte) : Statement (.frameReception port period chars) := by
  rintro - p f ⟨⟩

theorem unknownKind (rx : Rx) (kind : Byte) (payload : List Byte) : Statement (.unknownKind rx kind payload) := by
  rintro h p f ⟨⟩
  simp only [Instr.wellFormed, Bool.and_eq_true, decide_eq_true_eq] at h
  exact of_header h.1.1 _ h.2

theorem zoneAlarm (rx : Rx) (zone : Nat) (episode : Option Positions) : Statement (.zoneAlarm rx zone episode) := by
  rintro h p f ⟨⟩
  simp only [Instr.wellFormed, Bool.and_eq_true] at h
  cases episode <;> exact of_header h.1.1 _ (by simp [be16])

theorem zoneReset (rx : Rx) (zone : Nat) : Statement (.zoneReset rx zone) := by
  rintro h p f ⟨⟩
  simp only [Instr.wellFormed, Bool.and_eq_true] at h
  exact of_header h.1 _ (by simp)

theorem weather (rx : Rx) (speed direction rain : Nat) : Statement (.weather rx speed direction rain) := by
  rintro h p f ⟨⟩
  simp only [Instr.wellFormed, Bool.and_eq_true] at h
  exact of_header h.1.1.1 _ (by simp [be16])

theorem groupSet (rx : Rx) (group position mode : Nat) : Statement (.groupSet rx group position mode) := by
  rintro h p f ⟨⟩
  simp only [Instr.wellFormed, Bool.and_eq_true] at h
  exact of_header h.1.1.1 _ (by simp [be16])

theorem groupRelease (rx : Rx) (group : Nat) : Statement (.groupRelease rx group) := by
  rintro h p f ⟨⟩
  simp only [Instr.wellFormed, Bool.and_eq_true] at h
  exact of_header h.1 _ (by simp)

theorem setWrite (rx : Rx) (table index : Nat) (record : List Byte) : Statement (.setWrite rx table index record) := by
  rintro h p f ⟨⟩
  simp only [Instr.wellFormed, Bool.and_eq_true, decide_eq_true_eq] at h
  exact of_header h.1.1.1 _ (by simp only [List.length_cons]; omega)

theorem setCommit (rx : Rx) (tally generation : Nat) : Statement (.setCommit rx tally generation) := by
  rintro h p f ⟨⟩
  simp only [Instr.wellFormed, Bool.and_eq_true] at h
  exact of_header h.1.1 _ (by simp [be16, be32])

theorem setDiscard (rx : Rx) : Statement (.setDiscard rx) := by
  rintro h p f ⟨⟩
  exact of_header h _ (by simp)

theorem read (rx : Rx) (table index copy : Nat) : Statement (.read rx table index copy) := by
  rintro h p f ⟨⟩
  simp only [Instr.wellFormed, Bool.and_eq_true] at h
  exact of_header h.1.1.1 _ (by simp)

theorem query (rx : Rx) (subject index : Nat) : Statement (.query rx subject index) := by
  rintro h p f ⟨⟩
  simp only [Instr.wellFormed, Bool.and_eq_true] at h
  exact of_header h.1.1 _ (by simp)

theorem collect (rx : Rx) : Statement (.collect rx) := by
  rintro h p f ⟨⟩
  exact of_header h _ (by simp)

theorem lampSet (rx : Rx) (channel value : Nat) : Statement (.lampSet rx channel value) := by
  rintro h p f ⟨⟩
  simp only [Instr.wellFormed, Bool.and_eq_true] at h
  exact of_header h.1.1 _ (by simp)

theorem channelClear (rx : Rx) (channel : Nat) : Statement (.channelClear rx channel) := by
  rintro h p f ⟨⟩
  simp only [Instr.wellFormed, Bool.and_eq_true] at h
  exact of_header h.1 _ (by simp)

theorem errorClear (rx : Rx) : Statement (.errorClear rx) := by
  rintro h p f ⟨⟩
  exact of_header h _ (by simp)

theorem supplyClear (rx : Rx) : Statement (.supplyClear rx) := by
  rintro h p f ⟨⟩
  exact of_header h _ (by simp)

theorem nodeReset (rx : Rx) : Statement (.nodeReset rx) := by
  rintro h p f ⟨⟩
  exact of_header h _ (by simp)

theorem nodeResetTakesEffect : Statement (.nodeResetTakesEffect) := by
  rintro - p f ⟨⟩

theorem transmissionEnd (port : TrunkPort) : Statement (.transmissionEnd port) := by
  rintro - p f ⟨⟩

theorem transmissionStart (port : TrunkPort) : Statement (.transmissionStart port) := by
  rintro - p f ⟨⟩

theorem contactInputChange (level : Level) : Statement (.contactInputChange level) := by
  rintro - p f ⟨⟩

theorem pendingChangeAccepted : Statement (.pendingChangeAccepted) := by
  rintro - p f ⟨⟩

theorem panelTimeout : Statement (.panelTimeout) := by
  rintro - p f ⟨⟩

theorem rainHoldExpiry : Statement (.rainHoldExpiry) := by
  rintro - p f ⟨⟩

theorem stormHoldExpiry : Statement (.stormHoldExpiry) := by
  rintro - p f ⟨⟩

theorem stationTimeout : Statement (.stationTimeout) := by
  rintro - p f ⟨⟩

theorem dwellExpiry (channel : Fin 16) : Statement (.dwellExpiry channel) := by
  rintro - p f ⟨⟩

theorem retryExpiry (channel : Fin 16) : Statement (.retryExpiry channel) := by
  rintro - p f ⟨⟩

theorem supplySample (reading : Nat) : Statement (.supplySample reading) := by
  rintro - p f ⟨⟩

theorem slotStart : Statement (.slotStart) := by
  rintro - p f ⟨⟩

theorem branchReception (chars : List Byte) : Statement (.branchReception chars) := by
  rintro - p f ⟨⟩

theorem answerWindowClose : Statement (.answerWindowClose) := by
  rintro - p f ⟨⟩

end Sys2Proof.Laws.FrameInForm
end

