-- ==== Sys2Proof/Laws/Trunk.lean ====
section
/-! SUPPORT. What the Trunk Forwarder's operations can do, each said once. -/

namespace Sys2Proof.Machine

variable (s : State)

/-! ## Putting an entry to a port (R149, R155, R156, R158) -/

/-- Everything that putting an entry can come to. -/
theorem Port.put_cases (c : QueueClass) (x : Entry) (p : Port) :
    (p.link = false ∧ p.put c x = (p, .linkDown))
      ∨ (p.link = true ∧ p.startsAtOnce = true ∧ p.put c x = ({ p with flight := some x }, .taken))
      ∨ (p.link = true ∧ p.startsAtOnce = false ∧ c = .urgent
          ∧ p.urgent.length < Config.urgentCapacity
          ∧ p.put c x = ({ p with urgent := p.urgent ++ [x] }, .taken))
      ∨ (p.link = true ∧ p.startsAtOnce = false ∧ c = .normal
          ∧ p.normal.length < Config.normalCapacity
          ∧ p.put c x = ({ p with normal := p.normal ++ [x] }, .taken))
      ∨ (p.link = true ∧ p.startsAtOnce = false ∧ p.put c x = (p, .full)
          ∧ (c = .urgent → Config.urgentCapacity ≤ p.urgent.length)
          ∧ (c = .normal → Config.normalCapacity ≤ p.normal.length)) := by
  unfold Port.put
  cases hl : p.link
  · simp
  · cases hs : p.startsAtOnce
    · cases c
      · by_cases h : Config.urgentCapacity ≤ p.urgent.length
        · simp [h]
        · simp [h, Nat.lt_of_not_le h]
      · by_cases h : Config.normalCapacity ≤ p.normal.length
        · simp [h]
        · simp [h, Nat.lt_of_not_le h]
    · simp

/-- A port refuses only an entry it leaves out: refused, it stays as it was. -/
theorem Port.put_not_taken (c : QueueClass) (x : Entry) (p : Port) (h : (p.put c x).2 ≠ .taken) :
    (p.put c x).1 = p := by
  rcases Port.put_cases c x p with ⟨_, e⟩ | ⟨_, _, e⟩ | ⟨_, _, _, _, e⟩ | ⟨_, _, _, _, e⟩ | ⟨_, _, e, _⟩
    <;> simp_all

/-! ## Forwarding and replying -/

@[simp] theorem State.forward_now (p : TrunkPort) (f : Frame) :
    ((s.forward p f).1).now = s.now := by
  unfold State.forward; split <;> [rfl; (dsimp only; split <;> rfl)]
@[simp] theorem State.forward_freeCount (p : TrunkPort) (f : Frame) :
    ((s.forward p f).1).freeCount = s.freeCount := by
  unfold State.forward; split <;> [rfl; (dsimp only; split <;> rfl)]
@[simp] theorem State.forward_store (p : TrunkPort) (f : Frame) :
    ((s.forward p f).1).store = s.store := by
  unfold State.forward; split <;> [rfl; (dsimp only; split <;> rfl)]
@[simp] theorem State.forward_zone (p : TrunkPort) (f : Frame) :
    ((s.forward p f).1).zone = s.zone := by
  unfold State.forward; split <;> [rfl; (dsimp only; split <;> rfl)]
@[simp] theorem State.forward_weather (p : TrunkPort) (f : Frame) :
    ((s.forward p f).1).weather = s.weather := by
  unfold State.forward; split <;> [rfl; (dsimp only; split <;> rfl)]
@[simp] theorem State.forward_channels (p : TrunkPort) (f : Frame) :
    ((s.forward p f).1).channels = s.channels := by
  unfold State.forward; split <;> [rfl; (dsimp only; split <;> rfl)]
@[simp] theorem State.forward_branch (p : TrunkPort) (f : Frame) :
    ((s.forward p f).1).branch = s.branch := by
  unfold State.forward; split <;> [rfl; (dsimp only; split <;> rfl)]
@[simp] theorem State.forward_supply (p : TrunkPort) (f : Frame) :
    ((s.forward p f).1).supply = s.supply := by
  unfold State.forward; split <;> [rfl; (dsimp only; split <;> rfl)]
@[simp] theorem State.forward_notice (p : TrunkPort) (f : Frame) :
    ((s.forward p f).1).notice = s.notice := by
  unfold State.forward; split <;> [rfl; (dsimp only; split <;> rfl)]
@[simp] theorem State.forward_pending (p : TrunkPort) (f : Frame) :
    ((s.forward p f).1).pending = s.pending := by
  unfold State.forward; split <;> [rfl; (dsimp only; split <;> rfl)]

@[simp] theorem State.logOption_now (k : Option ErrorKind) (p : TrunkPort) (f : Frame) :
    (s.logOption k p f).now = s.now := by
  cases k <;> simp [State.logOption]
@[simp] theorem State.logOption_freeCount (k : Option ErrorKind) (p : TrunkPort) (f : Frame) :
    (s.logOption k p f).freeCount = s.freeCount := by
  cases k <;> simp [State.logOption]
@[simp] theorem State.logOption_trunk (k : Option ErrorKind) (p : TrunkPort) (f : Frame) :
    (s.logOption k p f).trunk = s.trunk := by
  cases k <;> simp [State.logOption]
@[simp] theorem State.logOption_store (k : Option ErrorKind) (p : TrunkPort) (f : Frame) :
    (s.logOption k p f).store = s.store := by
  cases k <;> simp [State.logOption]
@[simp] theorem State.logOption_zone (k : Option ErrorKind) (p : TrunkPort) (f : Frame) :
    (s.logOption k p f).zone = s.zone := by
  cases k <;> simp [State.logOption]
@[simp] theorem State.logOption_weather (k : Option ErrorKind) (p : TrunkPort) (f : Frame) :
    (s.logOption k p f).weather = s.weather := by
  cases k <;> simp [State.logOption]
@[simp] theorem State.logOption_channels (k : Option ErrorKind) (p : TrunkPort) (f : Frame) :
    (s.logOption k p f).channels = s.channels := by
  cases k <;> simp [State.logOption]
@[simp] theorem State.logOption_branch (k : Option ErrorKind) (p : TrunkPort) (f : Frame) :
    (s.logOption k p f).branch = s.branch := by
  cases k <;> simp [State.logOption]
@[simp] theorem State.logOption_supply (k : Option ErrorKind) (p : TrunkPort) (f : Frame) :
    (s.logOption k p f).supply = s.supply := by
  cases k <;> simp [State.logOption]
@[simp] theorem State.logOption_pending (k : Option ErrorKind) (p : TrunkPort) (f : Frame) :
    (s.logOption k p f).pending = s.pending := by
  cases k <;> simp [State.logOption]

@[simp] theorem State.forwardOnly_now (p : TrunkPort) (f : Frame) :
    (s.forwardOnly p f).now = s.now := by
  simp [State.forwardOnly]
@[simp] theorem State.forwardOnly_freeCount (p : TrunkPort) (f : Frame) :
    (s.forwardOnly p f).freeCount = s.freeCount := by
  simp [State.forwardOnly]
@[simp] theorem State.forwardOnly_store (p : TrunkPort) (f : Frame) :
    (s.forwardOnly p f).store = s.store := by
  simp [State.forwardOnly]
@[simp] theorem State.forwardOnly_zone (p : TrunkPort) (f : Frame) :
    (s.forwardOnly p f).zone = s.zone := by
  simp [State.forwardOnly]
@[simp] theorem State.forwardOnly_weather (p : TrunkPort) (f : Frame) :
    (s.forwardOnly p f).weather = s.weather := by
  simp [State.forwardOnly]
@[simp] theorem State.forwardOnly_channels (p : TrunkPort) (f : Frame) :
    (s.forwardOnly p f).channels = s.channels := by
  simp [State.forwardOnly]
@[simp] theorem State.forwardOnly_branch (p : TrunkPort) (f : Frame) :
    (s.forwardOnly p f).branch = s.branch := by
  simp [State.forwardOnly]
@[simp] theorem State.forwardOnly_supply (p : TrunkPort) (f : Frame) :
    (s.forwardOnly p f).supply = s.supply := by
  simp [State.forwardOnly]
@[simp] theorem State.forwardOnly_pending (p : TrunkPort) (f : Frame) :
    (s.forwardOnly p f).pending = s.pending := by
  simp [State.forwardOnly]

@[simp] theorem State.reply_now (p : TrunkPort) (f : Frame) (a : Nat) (st : Status) (b : List Byte) :
    (s.reply p f a st b false).now = s.now := by
  unfold State.reply; simp only [Bool.false_and]; split <;> simp
@[simp] theorem State.reply_freeCount (p : TrunkPort) (f : Frame) (a : Nat) (st : Status) (b : List Byte) :
    (s.reply p f a st b false).freeCount = s.freeCount := by
  unfold State.reply; simp only [Bool.false_and]; split <;> simp
@[simp] theorem State.reply_store (p : TrunkPort) (f : Frame) (a : Nat) (st : Status) (b : List Byte) :
    (s.reply p f a st b false).store = s.store := by
  unfold State.reply; simp only [Bool.false_and]; split <;> simp
@[simp] theorem State.reply_zone (p : TrunkPort) (f : Frame) (a : Nat) (st : Status) (b : List Byte) :
    (s.reply p f a st b false).zone = s.zone := by
  unfold State.reply; simp only [Bool.false_and]; split <;> simp
@[simp] theorem State.reply_weather (p : TrunkPort) (f : Frame) (a : Nat) (st : Status) (b : List Byte) :
    (s.reply p f a st b false).weather = s.weather := by
  unfold State.reply; simp only [Bool.false_and]; split <;> simp
@[simp] theorem State.reply_channels (p : TrunkPort) (f : Frame) (a : Nat) (st : Status) (b : List Byte) :
    (s.reply p f a st b false).channels = s.channels := by
  unfold State.reply; simp only [Bool.false_and]; split <;> simp
@[simp] theorem State.reply_branch (p : TrunkPort) (f : Frame) (a : Nat) (st : Status) (b : List Byte) :
    (s.reply p f a st b false).branch = s.branch := by
  unfold State.reply; simp only [Bool.false_and]; split <;> simp
@[simp] theorem State.reply_supply (p : TrunkPort) (f : Frame) (a : Nat) (st : Status) (b : List Byte) :
    (s.reply p f a st b false).supply = s.supply := by
  unfold State.reply; simp only [Bool.false_and]; split <;> simp
@[simp] theorem State.reply_pending (p : TrunkPort) (f : Frame) (a : Nat) (st : Status) (b : List Byte) :
    (s.reply p f a st b false).pending = s.pending := by
  unfold State.reply; simp only [Bool.false_and]; split <;> simp

/-- Forwarding changes the port opposite to the arrival alone. -/
theorem State.forward_trunk (p : TrunkPort) (f : Frame) :
    ∃ x, (s.forward p f).1.trunk = s.trunk.setPort x (otherPort p) := by
  have self : ∀ q, s.trunk = s.trunk.setPort (s.trunk.port q) q := fun q => by cases q <;> rfl
  unfold State.forward
  split
  · exact ⟨_, self _⟩
  · dsimp only
    split
    · exact ⟨_, rfl⟩
    · exact ⟨_, self _⟩
    · exact ⟨_, self _⟩

/-- A reply that carries no reset changes the port it leaves by alone. -/
theorem State.reply_trunk (p : TrunkPort) (f : Frame) (a : Nat) (st : Status) (b : List Byte) :
    ∃ x, (s.reply p f a st b false).trunk = s.trunk.setPort x p := by
  have self : s.trunk = s.trunk.setPort (s.trunk.port p) p := by cases p <;> rfl
  unfold State.reply
  simp only [Bool.false_and]
  split
  · exact ⟨_, rfl⟩
  · exact ⟨_, by simpa using self⟩
  · exact ⟨_, by simpa using self⟩

/-! ## Receiving (R151, R152, R153) -/

/-- Everything that receiving a frame can come to. -/
theorem State.receive_cases (p : TrunkPort) (f : Frame) (owner : Option Owner) :
    (s.trunk.address = none ∧ s.receive p f owner = s.forwardOnly p f)
      ∨ (s.trunk.address = some f.src ∧ s.receive p f owner = s.logFrame .loop p f)
      ∨ ∃ a, s.trunk.address = some a ∧ f.src ≠ a
          ∧ ((f.dst = a ∧ ∃ o, owner = some o
                ∧ s.receive p f owner = s.consume p f a (o.run f.src))
            ∨ (f.dst = a ∧ owner = none ∧ s.receive p f owner = s.supervise f.src)
            ∨ (f.dst ≠ a ∧ f.dst = 0 ∧ f.isBroadcast = true ∧ ∃ o, owner = some o
                ∧ s.receive p f owner = s.actAndForward p f (o.run f.src))
            ∨ (f.dst ≠ a ∧ (owner = none ∨ f.dst ≠ 0 ∨ f.isBroadcast = false)
                ∧ s.receive p f owner = (s.supervise f.src).forwardOnly p f)) := by
  unfold State.receive
  cases ha : s.trunk.address with
  | none => simp
  | some a =>
    by_cases hs : f.src = a
    · simp [hs]
    · right; right
      refine ⟨a, rfl, hs, ?_⟩
      by_cases hd : f.dst = a
      · cases owner <;> simp [hs, hd]
      · by_cases hb : f.dst = 0 ∧ f.isBroadcast = true
        · have h0 : ¬ (0 : Nat) = a := fun e => hd (hb.1.trans e)
          cases owner <;> simp [hs, hb, h0]
        · right; right; right
          refine ⟨hd, ?_, by simp [hs, hd, hb]⟩
          by_cases h0 : f.dst = 0
          · exact Or.inr (Or.inr (by simpa [h0] using hb))
          · exact Or.inr (Or.inl h0)

end Sys2Proof.Machine
end

