-- ==== Sys2Proof/Tests/Slice0.lean ====
section
/-! SUPPORT. The author's own tests: ill-formed commands that the checks refuse, the layouts of section
9.6 and the manual's worked values, one step at a time; and for each statement that has hypotheses a
witness that meets them, clause by clause. Expected values are taken from spec/, with their place. -/

-- One theorem after the other: each is evaluated by the kernel, and many at once hold many threads.
set_option Elab.async false

namespace Sys2Proof.Tests

open Sys2Proof.Machine

/-! ## WellFormed: one ill-formed term for each check -/

/-- Header ranges of section 9.2: dst above 62, src 0 and above 62, hop above 31, seq above 255. -/
theorem test_header_ranges_are_checked :
    Instr.wellFormed (.collect ⟨.up, 63, 1, 0, 0⟩) = false
      ∧ Instr.wellFormed (.collect ⟨.up, 17, 0, 0, 0⟩) = false
      ∧ Instr.wellFormed (.collect ⟨.up, 17, 63, 0, 0⟩) = false
      ∧ Instr.wellFormed (.collect ⟨.up, 17, 1, 32, 0⟩) = false
      ∧ Instr.wellFormed (.collect ⟨.up, 17, 1, 0, 256⟩) = false
      ∧ Instr.wellFormed (.collect ⟨.up, 62, 62, 31, 255⟩) = true := by decide

/-- A header in range. -/
def rx : Rx := ⟨.up, 17, 1, 31, 5⟩

/-- The same header, broadcast. -/
def all : Rx := { rx with dst := 0 }

/-- The same header, addressed to another node. -/
def other : Rx := { rx with dst := 62 }

/-- Payload fields that their bytes cannot spell. -/
theorem test_operand_widths_are_checked :
    Instr.wellFormed (.powerOn 64 .r115200 .active) = false
      ∧ Instr.wellFormed (.frameReception .up 0 []) = false
      ∧ Instr.wellFormed (.unknownKind rx 0x01 []) = false
      ∧ Instr.wellFormed (.unknownKind rx 0x06 (List.replicate 49 0)) = false
      ∧ Instr.wellFormed (.zoneAlarm rx 256 none) = false
      ∧ Instr.wellFormed (.zoneAlarm rx 0 (some ⟨65536, 0⟩)) = false
      ∧ Instr.wellFormed (.zoneAlarm rx 0 (some ⟨0, 65536⟩)) = false
      ∧ Instr.wellFormed (.zoneReset rx 256) = false
      ∧ Instr.wellFormed (.weather rx 65536 0 0) = false
      ∧ Instr.wellFormed (.weather rx 0 256 0) = false
      ∧ Instr.wellFormed (.weather rx 0 0 256) = false
      ∧ Instr.wellFormed (.groupSet rx 256 0 0) = false
      ∧ Instr.wellFormed (.groupSet rx 0 65536 0) = false
      ∧ Instr.wellFormed (.groupSet rx 0 0 256) = false
      ∧ Instr.wellFormed (.groupRelease rx 256) = false := by decide

theorem test_management_widths_are_checked :
    Instr.wellFormed (.setWrite rx 256 0 []) = false
      ∧ Instr.wellFormed (.setWrite rx 0 256 []) = false
      ∧ Instr.wellFormed (.setWrite rx 0 0 (List.replicate 47 0)) = false
      ∧ Instr.wellFormed (.setCommit rx 65536 0) = false
      ∧ Instr.wellFormed (.setCommit rx 0 4294967296) = false
      ∧ Instr.wellFormed (.read rx 256 0 0) = false
      ∧ Instr.wellFormed (.read rx 0 256 0) = false
      ∧ Instr.wellFormed (.read rx 0 0 256) = false
      ∧ Instr.wellFormed (.query rx 256 0) = false
      ∧ Instr.wellFormed (.query rx 0 256) = false
      ∧ Instr.wellFormed (.lampSet rx 256 0) = false
      ∧ Instr.wellFormed (.lampSet rx 0 256) = false
      ∧ Instr.wellFormed (.channelClear rx 256) = false
      ∧ Instr.wellFormed (.branchReception []) = false := by decide

/-! ## The states of the tests: node 17 with channel 5 of Case 1 -/

/-- Channel 5 of Case 1 (section 1.10, relieve_mm as in section 11.4). -/
def rec5 : ChannelRecord :=
  { defaultChannelRecord with
    inUse := true
    station := 6
    zones := 0b100
    facing := .sector 4
    stormCap := 250
    travelMax := 900
    strokeMm := 600
    relieveMm := 5
    fallbackPos := some 400 }

/-- The weather record of Case 1. -/
def weatherRec : WeatherRecord :=
  { defaultWeather with stormOn := 130, trimWindward := -150, trimLeeward := 100 }

/-- A set with channel 5 alone, in group 12, served in slot 2. -/
def set5 : ConfigSet :=
  { defaultSet with
    channels := defaultSet.channels.set 5 rec5
    groups := defaultSet.groups.set 12 0b100000
    weather := weatherRec
    cycle := defaultSet.cycle.set 2 (.channel 5) }

/-- The last reading of Case 1: speed 142, direction 3, no rain, in STORM. -/
def stormy : WeatherRuntime := ⟨false, true, false, 142, some 3, .stopped, .stopped, some 100000⟩

def stack5 : Stack :=
  ⟨none, none, some ⟨250, .storm, none⟩, none, some ⟨400, .group 12, none⟩, some ⟨0, .rest, none⟩⟩

/-- Channel 5 IDLE at 30 mm on its target (section 11.4). -/
def engine5 : Engine :=
  { Engine.powerOn with state := .idle, position := some 30, reportedLamp := some (.lamp .off) }

def channel5 : Channel :=
  ⟨stack5, some ⟨50, .w, .windward, true, true, false⟩, engine5, ⟨.bound, some 7, some 0⟩⟩

/-- A free port with its link UP. -/
def freePort : Port := ⟨true, [], [], none, false⟩

/-- Node 17 at 100 000 ms in generation 4. -/
def node17 : Machine.State :=
  { Machine.State.reset with
    now := 100000
    trunk := { Machine.State.reset.trunk with up := freePort, down := freePort }
    store := ⟨set5, none, 4⟩
    zone := { Machine.State.reset.zone with supervision := ⟨false, some 100000⟩ }
    weather := stormy
    channels := Machine.State.reset.channels.set 5 channel5
    branch := { Machine.State.reset.branch with schedule := .slot 1 99988, running := set5.cycle, sent := none }
    supply := ⟨.ok, false, 0, 0, 0, some 240, some 100000⟩ }

/-- Node 17 with another engine in channel 5. -/
def withEngine (e : Engine) : Machine.State :=
  node17.setChannels (node17.channels.set 5 { channel5 with engine := e })

/-- Node 17 with an exchange in progress since 99 995 ms. -/
def inExchange (kind : ExchangeKind) (poll : Poll) : Machine.State :=
  node17.setBranch { node17.branch with exchange := some ⟨kind, poll, 99995⟩ }

/-- The state a command leaves. -/
def after (c : Instr) (s : Machine.State) : Machine.State :=
  match exec c s with
  | .next t => t
  | _ => s

/-- Channel 5 after a command. -/
def ch5 (c : Instr) (s : Machine.State) : Channel := (after c s).channels.get 5

/-- An answer of channel 5's drive. -/
def answer5 : Answer :=
  { station := 6, serial := 7, position := 30, running := false, current := 0, openEnd := false
    closedEnd := false, key := .auto, lamp := .lamp .off, overtemperature := false
    driveSupplyFault := false }

/-- The reply that carries a pending reset, as an entry. -/
def resetReply : Entry := ⟨⟨0x20, 1, 17, 31, 5, [0x1A, 0]⟩, true⟩

/-- A frame as an entry. -/
def someEntry : Entry := ⟨⟨0x03, 0, 3, 4, 9, [0, 60, 3, 0]⟩, false⟩

/-- Node 17 with its UP port replaced. -/
def withUp (p : Port) : Machine.State := node17.setPort .up p

/-- Node 17 with its DOWN port replaced. -/
def withDown (p : Port) : Machine.State := node17.setPort .down p

/-- Node 17 with another weather runtime record. -/
def withWeather (w : WeatherRuntime) : Machine.State := node17.setWeather w

/-- Node 17 with another contact and another contact source. -/
def withContact (source : ContactSource) (contact : Contact) : Machine.State :=
  (node17.setStore
    ⟨{ set5 with node := { defaultNode with contactSource := source, contactZone := 2 } }, none, 4⟩).setZone
    { node17.zone with contact := contact }

/-- Node 17 with a staged set. -/
def staging (set : ConfigSet) (opener tally : Nat) : Machine.State :=
  node17.setStaged (some ⟨set, opener, tally⟩)

/-- Node 17 with another Supply Monitor record. -/
def withSupply (u : Supply) : Machine.State := node17.setSupply u

/-- A part strapped as a repeater. -/
def repeaterPart : Machine.State := Machine.State.reset.powerOn 63 .r115200 .inactive

/-! ## Layouts and codes (section 9.6) -/

/-- R160: the check of the nine digits 1 to 9 is the value published for this generator and initial value
(PRESUMED as a test's source: the manual gives no example). -/
theorem test_check_of_nine_digits :
    crc [0x31, 0x32, 0x33, 0x34, 0x35, 0x36, 0x37, 0x38, 0x39] = 0x29B1 := by decide +kernel

/-- Section 9.6: ZONE_ALARM for zone 2 with the pair 1000, 150. -/
theorem test_zone_alarm_layout :
    (zoneAlarmFrame ⟨.up, 0, 1, 31, 7⟩ 2 (some ⟨1000, 150⟩)).body
      = [0x01, 0x00, 0x01, 0x1F, 0x07, 0x05, 0x02, 0x03, 0xE8, 0x00, 0x96] := by decide

/-- Section 9.6: a poll GOTO 510 with lamp ON to station 6. -/
theorem test_poll_layout :
    (Poll.body ⟨6, .goto 510, some .on⟩) = [0x06, 0x02, 0x01, 0xFE, 0x02] := by decide

/-- Section 8.6 and 9.6: the default node record's twenty bytes. -/
theorem test_default_node_record_layout :
    nodeBytes defaultNode
      = [0x01, 0x27, 0x10, 0x00, 0x00, 0x00, 0x64, 0x00, 0xBE, 0x01, 0x2C, 0x04, 0x00, 0x00, 0x07, 0x00,
          0x00, 0x00, 0x00, 0x15] := by decide

/-- R75: 850 per-mille of 600 mm is 510 mm; 30 mm is 50 per-mille and 212 mm is 353 (Case 1). -/
theorem test_scales :
    setpoint rec5 850 = 510 ∧ setpoint rec5 50 = 30 ∧ perMille rec5 30 = 50 ∧ perMille rec5 212 = 353 := by
  decide

/-- Case 1: target 50 by W before the alarm, 850 by S in it. -/
theorem test_case_1 :
    compose set5 stormy rec5 stack5 = ⟨50, .w, .windward, true, true, false⟩
      ∧ compose set5 stormy rec5 { stack5 with s := some ⟨1000, .zone 2, none⟩ }
          = ⟨850, .s, .windward, true, false, false⟩ := by decide

/-- Case 2: 350 by W before the alarm, 950 by S in it, clamped. -/
theorem test_case_2 :
    let rec6 := { rec5 with facing := .sector 12, travelMax := 950 }
    compose set5 stormy rec6 stack5 = ⟨350, .w, .leeward, true, false, false⟩
      ∧ compose set5 stormy rec6 { stack5 with s := some ⟨1000, .zone 2, none⟩ }
          = ⟨950, .s, .leeward, true, false, true⟩ := by decide

/-- Case 5: the rain cap of 0 under a comfort demand, reopened to travel_min 50; then storm_cap 120. -/
theorem test_case_5 :
    let rec11 := { rec5 with facing := .sector 3, travelMin := 50, travelMax := 1000 }
    compose set5 stormy rec11 { stack5 with w := some ⟨0, .rain, none⟩ }
        = ⟨50, .w, .windward, false, true, true⟩
      ∧ compose set5 stormy rec11 { stack5 with w := some ⟨120, .storm, none⟩ }
          = ⟨50, .w, .windward, true, true, true⟩ := by decide

/-- Case 6: with W above S, 50 by W. -/
theorem test_case_6 :
    let layers :=
      { defaultLayers with s := ⟨5, .override, .channel, true, false⟩, w := ⟨7, .cap, .layer, true, true⟩ }
    compose { set5 with layers } stormy rec5 { stack5 with s := some ⟨1000, .zone 2, none⟩ }
      = ⟨50, .w, .windward, true, true, false⟩ := by decide

/-! ## One step -/

/-- The table gives no row any bits: no word spells a command. -/
theorem test_no_word_spells_a_command :
    decodeTableWord 8 0x16 = none ∧ (node17.withFetchWord 8 0x16) = node17 := by decide +kernel

/-- With no command waiting a millisecond passes. -/
theorem test_idle_step : step node17 = .next { node17 with now := 100001 } := rfl

/-- The state after reset is what POWER_ON leaves under the same straps, but for the count of listening
periods (assumption 11). -/
theorem test_reset_is_power_on :
    exec (.powerOn 17 .r115200 .inactive) Machine.State.reset
      = .next (Machine.State.reset.setTrunk { Machine.State.reset.trunk with period := 1 }) := rfl

/-- R150, R32: straps 0 make a repeater; an ACTIVE input starts a pending change at once. -/
theorem test_power_on_repeater :
    (after (.powerOn 0 .r460800 .active) node17).trunk.address = none
      ∧ (after (.powerOn 0 .r460800 .active) node17).zone.contact = ⟨.inactive, some 100000⟩ := by
  decide +kernel

/-- Section 11.4 at 200 ms: ZONE_ALARM gives 850 by S, MOVING, OPENING, reference 30 mm. -/
theorem test_zone_alarm_moves_channel :
    let c := ch5 (.zoneAlarm { rx with dst := 0 } 2 none) node17
    c.result = some ⟨850, .s, .windward, true, false, false⟩ ∧ c.engine.state = .moving
      ∧ c.engine.direction = some .opening ∧ c.engine.reference = some ⟨30, 100000⟩ := by
  decide +kernel

/-- R26: a zone of 16 logs FIELD_RANGE (bit 5) and answers BAD_VALUE (4). -/
theorem test_zone_alarm_out_of_range :
    (after (.zoneAlarm rx 16 none) node17).notice.flags = 0b00100000
      ∧ (after (.zoneAlarm rx 16 none) node17).trunk.up.flight
          = some ⟨⟨0x20, 1, 17, 31, 5, [0x01, 0x04]⟩, false⟩ := by decide +kernel

/-- Section 11.4 at 15 000 ms: the reset latches a channel waiting at its limit, without a notice. -/
theorem test_zone_reset_latches_waiting_channel :
    let s :=
      (node17.setZone
        { node17.zone with zones := node17.zone.zones.set 2 ⟨true, none, false⟩ }).setChannels
        (node17.channels.set 5
          { channel5 with
            stack := { stack5 with s := some ⟨1000, .zone 2, none⟩ }
            result := some ⟨850, .s, .windward, true, false, false⟩
            engine :=
              { engine5 with
                state := .retryWait
                timer := some (.retry 97384)
                retryCount := 3
                position := some 18 } })
    (ch5 (.zoneReset rx 2) s).engine.state = .latched
      ∧ (after (.zoneReset rx 2) s).notice.notices = [] := by decide +kernel

/-- R28: under the ACTIVE contact the reset of contact_zone is blocked. -/
theorem test_zone_reset_blocked :
    ((after (.zoneReset rx 2) (withContact .forcedOn ⟨.inactive, none⟩)).zone.zones.get 2).resetBlocked
      = true := by decide +kernel

/-- Section 3.12 at 200 000 ms: speed 60 starts the storm hold and restores the W cell 250. -/
theorem test_weather_returns :
    let s := withWeather { stormy with lost := true, stationTimer := none }
    let t := after (.weather { rx with dst := 0, src := 3 } 60 3 0) s
    t.weather.stormHold = .running 100000 0 ∧ t.weather.lost = false
      ∧ (t.channels.get 5).result = some ⟨250, .w, .windward, false, false, false⟩ := by decide +kernel

/-- Section 3.12 at 130 000 ms: the station is LOST, the W cell 0 by STATION_LOST, target 0. -/
theorem test_station_timeout :
    let s := withWeather { stormy with stationTimer := some 70000 }
    (ch5 .stationTimeout s).stack.w = some ⟨0, .stationLost, none⟩
      ∧ (ch5 .stationTimeout s).result = some ⟨0, .w, .neutral, false, false, false⟩ := by decide +kernel

/-- Section 3.12 at 260 000 ms: the storm hold expires and C decides 400. -/
theorem test_storm_hold_expiry :
    let s := withWeather { stormy with speed := 60, stormHold := .running 40000 0 }
    (ch5 .stormHoldExpiry s).result = some ⟨400, .c, .windward, false, false, false⟩ := by decide +kernel

/-- R52: the rain hold has run its 300 000 ms. -/
theorem test_rain_hold_expiry :
    (after .rainHoldExpiry
      (withWeather { stormy with wet := true, rainHold := .running 90000 290000 })).weather.wet = false := by
  decide +kernel

/-- R63, R64: a position above 1000 is clamped, the origin is the group. -/
theorem test_group_set_clamps :
    (ch5 (.groupSet { rx with dst := 0 } 12 1200 1) node17).stack.c
      = some ⟨1000, .group 12, some .cap⟩ := by decide +kernel

/-- R18, R20, R40, R64: a GROUP_SET of the panel ends LOST and writes C in one event. F 400 gives way to C
900 with one hand-over: the idle channel moves OPENING. -/
theorem test_group_set_ends_lost_once :
    let s :=
      ((withWeather { stormy with storm := false }).setZone
        { node17.zone with supervision := ⟨true, none⟩ }).setChannels
        (node17.channels.set 5
          { channel5 with
            stack := ⟨none, some ⟨400, .supervision, none⟩, none, none, none, some ⟨0, .rest, none⟩⟩
            result := some ⟨400, .f, .windward, false, false, false⟩
            engine := { engine5 with position := some 240 } })
    let c := ch5 (.groupSet all 12 900 0) s
    c.stack.f = none ∧ c.stack.c = some ⟨900, .group 12, some .override⟩
      ∧ c.engine.state = .moving ∧ c.engine.direction = some .opening := by decide +kernel

/-- R66: another group's release leaves the cell. -/
theorem test_group_release :
    (ch5 (.groupRelease rx 12) node17).stack.c = none
      ∧ (ch5 (.groupRelease rx 11) node17).stack.c = stack5.c := by decide +kernel

/-- R139: the first write opens staging; the reply carries OPEN, tally 1, generation 4. -/
theorem test_set_write_opens_staging :
    let t := after (.setWrite rx 3 2 [0x02, 0x58, 0x00, 0x96]) node17
    (t.store.staged.map fun x => (x.opener, x.tally, x.set.zones.get 2)) = some (1, 1, ⟨600, 150⟩)
      ∧ (t.trunk.up.flight.map fun x => x.frame.payload)
          = some [0x10, 0x00, 0x01, 0x00, 0x01, 0x00, 0x00, 0x00, 0x04] := by decide +kernel

/-- R141: a channel the cycle does not name fails V5 with that channel. -/
theorem test_set_commit_names_failing_check :
    ((after (.setCommit rx 1 4) (staging { set5 with cycle := defaultSet.cycle } 1 1)).trunk.up.flight.map
      fun x => x.frame.payload)
      = some [0x11, 0x09, 0x01, 0x00, 0x01, 0x00, 0x00, 0x00, 0x04, 0x05, 0x02, 0x05] := by decide +kernel

/-- R142 and section 11.6: a commit that lowers retry_limit to a waiting channel's count latches it. -/
theorem test_set_commit_latches :
    let e := { engine5 with state := .retryWait, timer := some (.retry 99000), retryCount := 2 }
    let set := { set5 with channels := set5.channels.set 5 { rec5 with retryLimit := 2 } }
    let s := (withEngine e).setStaged (some ⟨set, 1, 1⟩)
    (ch5 (.setCommit rx 1 4) s).engine.state = .latched
      ∧ (after (.setCommit rx 1 4) s).store.generation = 5 := by decide +kernel

/-- R143: any source discards. -/
theorem test_set_discard : (after (.setDiscard rx) (staging set5 9 3)).store.staged = none := by
  decide +kernel

/-- R144: the ACTIVE record of group 12. -/
theorem test_read :
    ((after (.read rx 4 12 0) node17).trunk.up.flight.map fun x => x.frame.payload)
      = some [0x13, 0x00, 0x00, 0x00, 0x00, 0x04, 0x00, 0x20] := by decide +kernel

/-- R165: QUERY ZONE on a zone in ALARM by an episode of 600, 150. -/
theorem test_query :
    let s :=
      node17.setZone { node17.zone with zones := node17.zone.zones.set 3 ⟨true, some ⟨600, 150⟩, false⟩ }
    ((after (.query rx 2 3) s).trunk.up.flight.map fun x => x.frame.payload)
      = some [0x14, 0x00, 0x05, 0x02, 0x58, 0x00, 0x96] := by decide +kernel

/-- R163: the FAULT record comes before the LOST one; ATTENTION stays for the rest. -/
theorem test_collect :
    let s := (node17.raise (.lost 5)).raise (.fault 3 .noLoad)
    ((after (.collect rx) s).trunk.up.flight.map fun x => x.frame.payload)
        = some [0x15, 0x00, 0x02, 0x03, 0x00, 0x02]
      ∧ (after (.collect rx) s).notice.attention = true := by decide +kernel

/-- R98: the override. -/
theorem test_lamp_set :
    (ch5 (.lampSet rx 5 2) node17).engine.lampOverride = some .blink
      ∧ (after (.lampSet rx 5 4) node17).channels = node17.channels := by decide +kernel

/-- Section 11.4, the clear: 18 mm is 30 per-mille, so the channel opens. -/
theorem test_channel_clear :
    let s := withEngine { engine5 with state := .latched, position := some 18, retryCount := 3 }
    (ch5 (.channelClear rx 255) s).engine.state = .moving
      ∧ (ch5 (.channelClear rx 255) s).engine.direction = some .opening := by decide +kernel

/-- R168: flags, first error and overflow go; notices stay. -/
theorem test_error_clear :
    let s := node17.logError .crcBad .up .nothing
    (after (.errorClear rx) s).notice
      = ⟨[.lineMajor .crcBad], 0, none, true⟩ := by decide +kernel

/-- R132: one sample in the window is enough. -/
theorem test_supply_clear :
    (after (.supplyClear rx) (withSupply ⟨.high, true, 0, 0, 1, some 300, none⟩)).supply.state = .ok
      ∧ (after (.supplyClear rx) (withSupply ⟨.high, true, 0, 0, 1, some 301, none⟩)).supply.state
          = .high := by decide +kernel

/-- R159: the reply carries the reset, and its end brings the reset about. -/
theorem test_node_reset :
    (after (.nodeReset rx) node17).trunk.pendingReset = true
      ∧ (after (.nodeReset rx) node17).trunk.up.flight = some resetReply
      ∧ (ch5 .nodeResetTakesEffect (after (.nodeReset rx) node17)).engine.state = .unbound := by
  decide +kernel

/-- R149, R158: a DOWN link empties its queues and completes its frame. -/
theorem test_link_events :
    (after (.linkDown .up) (withUp ⟨true, [someEntry], [someEntry], some someEntry, false⟩)).trunk.up
        = ⟨false, [], [], some someEntry, false⟩
      ∧ (after (.linkUp .up) repeaterPart).trunk.up.link = true := by decide +kernel

/-- R158: the idle gap follows a frame; then URGENT goes before NORMAL. -/
theorem test_transmissions :
    (after (.transmissionEnd .up) (withUp ⟨true, [], [], some someEntry, false⟩)).trunk.up.gap = true
      ∧ (after (.transmissionStart .up)
          (withUp ⟨true, [resetReply], [someEntry], none, true⟩)).trunk.up
          = ⟨true, [], [someEntry], some resetReply, false⟩ := by decide +kernel

/-- R32, R35: a change held 100 ms is accepted and alarms contact_zone with a CONTACT notice. -/
theorem test_contact :
    let s := withContact .pin ⟨.inactive, some 99900⟩
    (after .pendingChangeAccepted s).notice.notices = [.contact]
      ∧ (ch5 .pendingChangeAccepted s).stack.s = some ⟨1000, .zone 2, none⟩
      ∧ (after (.contactInputChange .inactive) s).zone.contact = ⟨.inactive, none⟩ := by decide +kernel

/-- R39, R41: ten seconds of panel silence place the F cell. -/
theorem test_panel_timeout :
    (ch5 .panelTimeout
      (node17.setZone { node17.zone with supervision := ⟨false, some 90000⟩ })).stack.f
      = some ⟨400, .supervision, none⟩ := by decide +kernel

/-- Section 5.13 at 1200 ms: the dwell ends, 184 mm is 307 per-mille, the channel opens towards 850. -/
theorem test_dwell_expiry :
    let s :=
      node17.setChannels
        (node17.channels.set 5
          { channel5 with
            result := some ⟨850, .s, .windward, true, false, false⟩
            engine :=
              { engine5 with
                state := .dwell
                direction := some .closing
                timer := some (.dwell 99500)
                position := some 184 } })
    (ch5 (.dwellExpiry 5) s).engine.direction = some .opening
      ∧ (ch5 (.dwellExpiry 5) s).engine.reference = some ⟨184, 100000⟩ := by decide +kernel

/-- R89: a retry not yet due does nothing; due, it tests the move. -/
theorem test_retry_expiry :
    let s := fun t => withEngine { engine5 with state := .retryWait, timer := some (.retry t) }
    (ch5 (.retryExpiry 5) (s 95000)).engine.state = .idle
      ∧ after (.retryExpiry 5) (s 95001) = s 95001 := by decide +kernel

/-- R129: the third sample below 19.0 V makes the supply LOW and holds the moving channel. -/
theorem test_supply_sample :
    let s :=
      (withEngine { engine5 with state := .moving, direction := some .opening }).setSupply
        ⟨.ok, false, 2, 0, 0, some 189, some 100000⟩
    (after (.supplySample 189) s).supply.state = .low
      ∧ (ch5 (.supplySample 189) s).engine.state = .held
      ∧ (after (.supplySample 189) s).notice.notices = [.supply .low] := by decide +kernel

/-- R107, R74: slot 2 polls station 6 with HOLD. -/
theorem test_slot_start :
    (after .slotStart node17).branch.sent = some ⟨6, .hold, none⟩
      ∧ (after .slotStart node17).branch.schedule = .slot 2 100000 := by decide +kernel

/-- Section 11.4 at 864 ms: the third answer at 2500 mA faults; S decides, so LATCH waits for a retry. -/
theorem test_branch_reception_faults :
    let poll : Poll := ⟨6, .goto 510, none⟩
    let s :=
      (inExchange (.channel 5 true) poll).setChannels
        (node17.channels.set 5
          { channel5 with
            result := some ⟨850, .s, .windward, true, false, false⟩
            engine :=
              { engine5 with
                state := .moving
                direction := some .opening
                position := some 31
                overcurrentRun := some 99424
                reference := some ⟨30, 99336⟩ } })
    let chars := { answer5 with position := 31, running := true, current := 2500 }.chars
    (ch5 (.branchReception chars) s).engine.state = .retryWait
      ∧ (ch5 (.branchReception chars) s).engine.retryCount = 1
      ∧ (after (.branchReception chars) s).notice.notices = [.fault 5 .overcurrent] := by decide +kernel

/-- R113: the third consecutive miss loses the drive. -/
theorem test_answer_window_close :
    let s :=
      ((inExchange (.channel 5 true) ⟨6, .hold, none⟩).setNow 100003).setChannels
        (node17.channels.set 5 { channel5 with binding := ⟨.bound, some 7, some 2⟩ })
    (ch5 .answerWindowClose s).binding = ⟨.lost, some 7, none⟩
      ∧ (after .answerWindowClose s).notice.notices = [.lost 5] := by decide +kernel

/-- R151: a reception with a bad check logs CRC_BAD (bit 0) and nothing else of the frame. -/
theorem test_frame_reception :
    (after (.frameReception .down 0 [0x02, 0, 1, 0, 0, 1, 2, 0, 0]) node17).notice.flags = 1
      ∧ after (.frameReception .down 0 (zoneAlarmFrame rx 2 none).chars) node17
          = after (.zoneAlarm { rx with port := .down } 2 none) node17 := by decide +kernel

/-- R153: an addressed unknown kind is answered UNKNOWN_KIND (1). -/
theorem test_unknown_kind :
    (after (.unknownKind rx 0x06 [1]) node17).trunk.up.flight
      = some ⟨⟨0x20, 1, 17, 31, 5, [0x06, 0x01]⟩, false⟩ := by decide +kernel

/-! ## Witnesses: for each statement with hypotheses, values that meet them, clause by clause -/

/-- Ports at each queue length the clauses name, the transmitter busy. -/
def busyPort (urgent normal : Nat) : Port :=
  ⟨true, List.replicate urgent someEntry, List.replicate normal someEntry, some someEntry, false⟩

/-- The transmitter is free and nothing waits. -/
abbrev idle (x : Port) : Prop := x.flight = none ∧ x.gap = false ∧ x.urgent = [] ∧ x.normal = []

theorem witness_StepRunsFrontCommand :
    (node17.setPending [.slotStart, .panelTimeout]).pending = .slotStart :: [.panelTimeout]
      ∧ node17.pending = [] := by decide +kernel

/-- The widest well-formed WEATHER and SET_WRITE frames; the second spells its command though its length
is no table's. -/
theorem witness_FrameCharactersSpellCommand :
    let c : Instr := .weather ⟨.down, 0, 62, 31, 255⟩ 65535 255 255
    let d : Instr := .setWrite ⟨.up, 62, 62, 31, 255⟩ 255 255 (List.replicate 46 255)
    c.wellFormed = true ∧ (frameOf c).isSome = true ∧ d.wellFormed = true ∧ (frameOf d).isSome = true
      ∧ (∀ p f, frameOf d = some (p, f) → ∀ k, kindOf f.kind = some k → lengthAllowed k f.payload = true) := by
  refine ⟨by decide, rfl, by decide, rfl, ?_⟩
  rintro p f ⟨⟩ k h
  have : k = .setWrite := by
    have e : kindOf 0x10 = some FrameKind.setWrite := by decide
    exact Option.some.inj (h.symm.trans e)
  subst this; decide

theorem witness_ReceptionHasCommandEffect :
    let c : Instr := .zoneAlarm all 255 (some ⟨65535, 65535⟩)
    c.wellFormed = true ∧ (frameOf c).isSome = true := by decide +kernel

theorem witness_WrittenRecordReadsBack :
    (defaultSet.write .zone 15 [0x03, 0xE8, 0x00, 0x00]).isSome = true
      ∧ (defaultSet.write .weather 0 (weatherBytes weatherRec)).isSome = true := by decide +kernel

theorem witness_AnswerCharactersReadBack :
    let a : Answer := { answer5 with station := 255, position := 1023, current := 4000 }
    a.station < 256 ∧ a.serial ≠ 0 ∧ a.position ≤ 1023 ∧ a.current ≤ 4000 := by decide

/-- Another listening period; seven characters; eight with a bad check; a hop of 32 with a good check; the node's own source. -/
theorem witness_FailedReceiveChecksOnlyLog :
    let badHop : List Byte := [0x02, 0, 1, 32, 0, 0]
    let own : Frame := ⟨0x02, 0, 17, 31, 255, [2]⟩
    1 ≠ node17.trunk.period
      ∧ (List.replicate 7 (0 : Byte)).length < 8
      ∧ crcGood (List.replicate 8 0) = false
      ∧ (8 ≤ (badHop ++ crcBytes badHop).length ∧ crcGood (badHop ++ crcBytes badHop) = true)
      ∧ (own.InForm ∧ node17.trunk.address = some own.src) := by decide +kernel

/-- A broadcast kind addressed elsewhere; a management kind sent to 0; a reply to the node, and one with an empty
payload; a repeater. -/
theorem witness_FramesForOthersAreForwarded :
    let f : Frame := ⟨0x01, 62, 1, 31, 5, [2]⟩
    let g : Frame := ⟨0x14, 0, 1, 31, 5, [0, 0]⟩
    let r : Frame := ⟨0x20, 17, 1, 31, 5, [0x14, 0]⟩
    f.InForm ∧ g.InForm ∧ r.InForm ∧ { r with payload := [] }.InForm
      ∧ node17.trunk.address = some 17 ∧ f.dst ≠ 17 ∧ f.dst ≠ 0
      ∧ (g.dst = 0 ∧ (kindOf g.kind).map FrameKind.isBroadcast = some false)
      ∧ (r.dst = 17 ∧ r.kind = FrameKind.reply.code)
      ∧ repeaterPart.trunk.address = none := by decide +kernel

/-- Hop 0 and 1; a DOWN link; an idle port; queues one short of full and full. -/
theorem witness_ForwardsAndRepliesTakeTheirPort :
    let urgent : Frame := ⟨0x01, 0, 1, 1, 5, [2]⟩
    let normal : Frame := { urgent with kind := 0x06 }
    (kindOf urgent.kind).any (fun k => node17.node.classMap.getLsbD k.mapBit) = true
      ∧ kindOf normal.kind = none ∧ urgent.hop ≠ 0
      ∧ ((withDown Port.powerOn).port .down).link = false
      ∧ ((node17.port .down).link = true ∧ idle (node17.port .down))
      ∧ ((withDown (busyPort 3 0)).port .down).urgent.length < 4
      ∧ 4 ≤ ((withDown (busyPort 4 0)).port .down).urgent.length
      ∧ ((withDown (busyPort 0 7)).port .down).normal.length < 8
      ∧ 8 ≤ ((withDown (busyPort 0 8)).port .down).normal.length
      ∧ ¬ idle ((withDown (busyPort 3 7)).port .down)
      ∧ ((withUp Port.powerOn).port .up).link = false
      ∧ ((node17.port .up).link = true ∧ idle (node17.port .up))
      ∧ (¬ idle ((withUp (busyPort 0 7)).port .up) ∧ ((withUp (busyPort 0 7)).port .up).normal.length < 8)
      ∧ 8 ≤ ((withUp (busyPort 0 8)).port .up).normal.length := by decide +kernel

/-- An unknown kind, addressed and not; bad lengths of SET_WRITE, READ, SUPPLY_CLEAR, COLLECT and a
ZONE_RESET, with staging CLOSED and OPEN; a bad length broadcast by a frame that is forwarded and by one
whose hop is 0. -/
theorem witness_UnactedFramesAreAnswered :
    let bad := fun (kind : Byte) (dst hop : Nat) (payload : List Byte) => (⟨kind, dst, 1, hop, 5, payload⟩ : Frame)
    let cast := bad 0x02 0 31 []
    let expired := bad 0x02 0 0 []
    (kindOf 0x06 = none ∧ kindOf 0xFF = none ∧ rx.ReceivedBy 17 node17 ∧ rx.dst = 17
        ∧ other.ReceivedBy 17 node17 ∧ other.dst ≠ 17)
      ∧ node17.trunk.address = some 17
      ∧ ((bad 0x10 17 31 [1]).InForm ∧ kindOf 0x10 = some .setWrite ∧ lengthAllowed .setWrite [1] = false
          ∧ node17.store.staged = none ∧ (staging set5 1 65535).store.staged = some ⟨set5, 1, 65535⟩)
      ∧ (kindOf 0x13 = some .read ∧ lengthAllowed .read [] = false)
      ∧ (kindOf 0x19 = some .supplyClear ∧ lengthAllowed .supplyClear [0] = false)
      ∧ (kindOf 0x15 = some .collect ∧ lengthAllowed .collect [0] = false)
      ∧ (cast.InForm ∧ expired.InForm ∧ cast.dst ≠ 17 ∧ cast.dst = 0 ∧ kindOf 0x02 = some .zoneReset ∧ FrameKind.zoneReset.isBroadcast = true
          ∧ lengthAllowed .zoneReset [] = false
          ∧ ((node17.supervise 1).forward .up cast).2 = none
          ∧ ((node17.supervise 1).forward .up expired).2 = some .hopExpired) := by decide +kernel

/-- The straps at both ends of each range. -/
theorem witness_PowerOnSetsEveryBlock : 0 ≤ 63 ∧ 1 ≤ 63 ∧ 62 ≤ 63 ∧ 63 ≤ 63 := by decide

theorem witness_PortEventsFollowRules :
    ((withUp (busyPort 1 1)).port .up).holdsReset = false
      ∧ ((withUp ⟨true, [], [resetReply], some someEntry, false⟩).port .up).holdsReset = true
      ∧ ((withUp (busyPort 0 0)).port .up).flight = some ⟨someEntry.frame, false⟩
      ∧ (let x := (withUp ⟨true, [someEntry], [], none, true⟩).port .up; x.flight = none ∧ x.urgent = someEntry :: [])
      ∧ (let x := (withUp ⟨true, [], [someEntry], none, true⟩).port .up; x.flight = none ∧ x.urgent = [] ∧ x.normal = someEntry :: [])
      ∧ (let x := (withUp ⟨true, [], [], none, true⟩).port .up; x.flight = none ∧ x.urgent = [] ∧ x.normal = []) := by decide +kernel

/-- A reset pending; a reply taken by an idle port and by a queue one short of full; a full queue; a DOWN
link; a request for another node. -/
theorem witness_NodeResetIsAnsweredFirst :
    rx.ReceivedBy 17 node17 ∧ rx.dst = 17 ∧ node17.trunk.pendingReset = false
      ∧ (after (.nodeReset rx) node17).trunk.pendingReset = true
      ∧ ((node17.port rx.port).link = true ∧ idle (node17.port rx.port))
      ∧ (¬ idle ((withUp (busyPort 0 7)).port .up) ∧ ((withUp (busyPort 0 7)).port .up).normal.length < 8)
      ∧ (¬ idle ((withUp (busyPort 0 8)).port .up) ∧ ¬ ((withUp (busyPort 0 8)).port .up).normal.length < 8)
      ∧ ((withUp Port.powerOn).port .up).link = false
      ∧ other.ReceivedBy 17 node17 ∧ other.dst ≠ 17 := by decide +kernel

/-- The reply in flight on UP, nothing that resets on DOWN; and on DOWN with its link DOWN, a frame in flight
on a DOWN link beside it. -/
theorem witness_NodeResetSetsEveryBlock :
    let s := after (.nodeReset rx) node17
    let u := (withDown ⟨false, [], [], some resetReply, false⟩).setPort .up ⟨false, [], [], some someEntry, false⟩
    ((s.port .up).flight = some ⟨resetReply.frame, true⟩ ∧ (s.port (otherPort .up)).flightResets = false)
      ∧ ((u.port .down).flight = some ⟨resetReply.frame, true⟩
          ∧ (u.port (otherPort .down)).flightResets = false
          ∧ (u.port (otherPort .down)).link = false
          ∧ (u.port (otherPort .down)).flight = some someEntry) := by decide +kernel

theorem witness_ZoneAlarmSetsZone :
    rx.ReceivedBy 17 node17 ∧ rx.dst = 17 ∧ all.ReceivedBy 17 node17 ∧ all.dst = 0
      ∧ (∀ p ∈ some (⟨1000, 1000⟩ : Positions), p.exhaust ≤ 1000 ∧ p.inlet ≤ 1000) := by decide +kernel

theorem witness_ZoneResetObeysContact :
    rx.ReceivedBy 17 (withContact .pin ⟨.active, none⟩) ∧ rx.dst = 17
      ∧ ((2 : ZoneNo) = (withContact .pin ⟨.active, none⟩).node.contactZone
          ∧ (withContact .pin ⟨.active, none⟩).effective = .active)
      ∧ ¬ ((2 : ZoneNo) = (withContact .forcedOff ⟨.active, none⟩).node.contactZone
          ∧ (withContact .forcedOff ⟨.active, none⟩).effective = .active) := by decide +kernel

/-- Each field one above its range; addressed, broadcast, and broadcast with an expired hop. -/
theorem witness_FieldRangeIsNotActedOn :
    (frameOf (.zoneAlarm rx 16 none)).isSome = true
      ∧ (frameOf (.zoneAlarm rx 0 (some ⟨1001, 0⟩))).isSome = true ∧ (1000 < 1001)
      ∧ (frameOf (.zoneReset all 16)).isSome = true ∧ 16 ≤ 16
      ∧ (frameOf (.groupSet all 64 0 0)).isSome = true ∧ 64 ≤ 64
      ∧ (frameOf (.groupSet all 0 0 3)).isSome = true ∧ 3 ≤ 3 ∧ 3 ≠ 255 ∧ 254 ≠ 255
      ∧ (frameOf (.groupRelease { all with hop := 0 } 64)).isSome = true
      ∧ node17.trunk.address = some 17 ∧ rx.src ≠ 17 ∧ rx.dst = 17 ∧ all.dst ≠ 17 ∧ all.dst = 0
      ∧ ((node17.supervise 1).forward .up (zoneResetFrame all 16)).2 = none
      ∧ ((node17.supervise 1).forward .up (groupReleaseFrame { all with hop := 0 } 64)).2
          = some .hopExpired := by decide +kernel

/-- A change held exactly the 100 ms of the default: to ACTIVE on PIN, and under FORCED_OFF. -/
theorem witness_ContactIsDeglitched :
    let s := withContact .pin ⟨.inactive, some 99900⟩
    let u := withContact .forcedOff ⟨.inactive, some 99900⟩
    s.zone.contact.pendingSince = some 99900 ∧ s.node.contactDeglitchMs ≤ s.now - 99900
      ∧ (s.node.contactSource = .pin ∧ otherLevel s.zone.contact.accepted = .active ∧ s.repeater = false)
      ∧ u.zone.contact.pendingSince = some 99900 ∧ u.node.contactDeglitchMs ≤ u.now - 99900
      ∧ ¬ (u.node.contactSource = .pin) := by decide +kernel

theorem witness_PanelSupervisionPlacesFallback :
    let lost := node17.setZone { node17.zone with supervision := ⟨true, none⟩ }
    let due := node17.setZone { node17.zone with supervision := ⟨false, some 90000⟩ }
    (node17.zone.supervision.lost = false ∧ 1 ≤ node17.store.generation)
      ∧ (Machine.State.reset.zone.supervision.lost = false ∧ Machine.State.reset.store.generation = 0)
      ∧ lost.zone.supervision.lost = true ∧ 2 ≠ node17.node.panelAddress
      ∧ (due.zone.supervision = ⟨false, some 90000⟩ ∧ due.node.panelTimeoutMs ≤ due.now - 90000) := by
  decide +kernel

/-- Any source and one that is not the record's; rain and none; WET found with its hold stopped, running
and frozen; STORM found and not. -/
theorem witness_WeatherFrameIsApplied :
    let strict := node17.setStore ⟨{ set5 with weather := { weatherRec with source := 3 } }, none, 4⟩
    let frozen := withWeather ⟨true, true, true, 0, none, .frozen 300000, .stopped, none⟩
    all.ReceivedBy 17 node17 ∧ all.dst = 0
      ∧ node17.store.active.weather.source = 0
      ∧ ¬ (strict.store.active.weather.source = 0 ∨ strict.store.active.weather.source = all.src)
      ∧ (node17.weather.lost = false ∧ node17.weather.storm = true)
      ∧ (withWeather { stormy with storm := false }).weather.storm = false
      ∧ (frozen.weather.lost = true ∧ frozen.weather.wet = true ∧ frozen.weather.rainHold = .frozen 300000
          ∧ frozen.store.active.weather.rainHoldMs ≤ 300000) := by decide +kernel

theorem witness_WeatherTimersExpire :
    let s := withWeather ⟨true, true, false, 90, some 3, .running 90000 290000, .running 40000 0, some 70000⟩
    let h := s.setStore ⟨{ set5 with weather := { weatherRec with policy := .holdLast } }, none, 4⟩
    (s.weather.rainHold = .running 90000 290000
        ∧ s.store.active.weather.rainHoldMs ≤ 290000 + (s.now - 90000))
      ∧ (s.weather.stormHold = .running 40000 0 ∧ s.store.active.weather.stormHoldMs ≤ 0 + (s.now - 40000))
      ∧ (s.weather.stationTimer = some 70000 ∧ s.store.active.weather.stationTimeoutMs ≤ s.now - 70000)
      ∧ s.store.active.weather.policy = .assumeStormRain ∧ h.store.active.weather.policy = .holdLast := by
  decide +kernel

/-- The distances 2, 3, 5 and 6, round the shorter way; channel 5 trimmed and derated. -/
theorem witness_WindTrimDerateAndClampApply :
    stormy.direction = some 3 ∧ ¬ (stormy.lost = true)
      ∧ sectorDistance 3 1 = 2 ∧ sectorDistance 3 0 = 3 ∧ sectorDistance 3 14 = 5 ∧ sectorDistance 3 13 = 6
      ∧ ({ stormy with direction := none } : WeatherRuntime).direction = none
      ∧ ({ stormy with lost := true } : WeatherRuntime).lost = true
      ∧ rec5.travelMin ≤ rec5.travelMax
      ∧ ((set5.layers.get (foldCells set5.layers rec5 stack5).layer).trim = true
          ∧ 0 < (foldCells set5.layers rec5 stack5).value
          ∧ windClass set5.weather.policy stormy rec5.facing = .windward
          ∧ set5.weather.derateThreshold ≤ stormy.speed) := by decide

/-- W: each combination of the candidates; equal caps; the worst assumed. S: no zone in ALARM; the zones 1 and
3 equal by an episode and the record, zone 2 below. F: with a fallback position and without. -/
theorem witness_ProducerCellsFollowRules :
    let rain : WeatherRuntime := { stormy with wet := true, storm := false }
    let both : WeatherRuntime := { stormy with wet := true }
    let lost : WeatherRuntime := { stormy with lost := true }
    let two := { rec5 with zones := 0b1110 }
    let zones : Table ZoneRuntime 16 :=
      ((node17.zone.zones.set 1 ⟨true, some ⟨1000, 0⟩, false⟩).set 2 ⟨true, some ⟨999, 1000⟩, false⟩).set 3
        ⟨true, none, false⟩
    (rain.wet = true ∧ rec5.rainExposed = true ∧ ¬ rain.storm = true)
      ∧ (weatherCell .holdLast stormy rec5).isSome = true
      ∧ (weatherCell .holdLast both { rec5 with rainCap := 250 }).isSome = true
      ∧ rec5.rainCap ≤ rec5.stormCap
      ∧ ({ rec5 with rainCap := 251 } : ChannelRecord).stormCap < 251
      ∧ (lost.lost = true ∧ (weatherCell .assumeStormRain lost rec5).isSome = true)
      ∧ weatherCell .holdLast { stormy with storm := false } rec5 = none
      ∧ smokeCell set5 node17.zone.zones two = none
      ∧ (smokeCell set5 zones two).isSome = true
      ∧ ((set5.zones.get 3).exhaustPos = 1000 ∧ two.role = .exhaust)
      ∧ (rec5.fallbackPos = some 400 ∧ ({ rec5 with fallbackPos := none } : ChannelRecord).fallbackPos = none) := by
  decide +kernel

theorem witness_GroupFramesWriteMembers :
    rx.ReceivedBy 17 node17 ∧ rx.dst = 17 ∧ all.ReceivedBy 17 node17 ∧ all.dst = 0
      ∧ ((node17.record 5).inUse = true ∧ (node17.store.active.groups.get 12).getLsbD 5 = true)
      ∧ (node17.channels.get 5).stack.c.map (·.origin) = some (.group 12) := by decide +kernel

/-- Staging CLOSED, and OPEN by the frame's source with the tally at its largest. -/
theorem witness_SetWriteStagesRecord :
    rx.ReceivedBy 17 node17 ∧ rx.dst = 17 ∧ tableOf 7 = some .cycle
      ∧ ([0x11] : List Byte).length = TableName.cycle.recordLength ∧ 23 < TableName.cycle.count
      ∧ (set5.write .cycle 23 [0x11]).isSome = true
      ∧ (∀ x ∈ node17.store.staged, x.opener = rx.src)
      ∧ (∀ x ∈ (staging set5 1 65535).store.staged, x.opener = rx.src ∧ x.set = set5) := by decide +kernel

/-- The table codes 0 and 8; an index one too large; a slot of 18; another opener; and for a commit no
staging, another opener, a tally and a generation one off, the largest generation, and a set whose cycle
names no channel. -/
theorem witness_SetRefusalsInOrder :
    let largest := (staging set5 1 1).setStore ⟨set5, some ⟨set5, 1, 1⟩, 4294967295⟩
    rx.ReceivedBy 17 node17 ∧ rx.dst = 17 ∧ tableOf 0 = none ∧ tableOf 8 = none
      ∧ tableOf 7 = some .cycle ∧ TableName.cycle.count ≤ 24
      ∧ (23 < TableName.cycle.count ∧ set5.write .cycle 23 [18] = none)
      ∧ (set5.write .cycle 23 [17] ≠ none ∧ (staging set5 2 1).store.staged = some ⟨set5, 2, 1⟩ ∧ 2 ≠ rx.src)
      ∧ node17.store.staged = none
      ∧ ((staging set5 1 1).store.staged = some ⟨set5, 1, 1⟩ ∧ 2 ≠ 1
          ∧ (staging set5 1 1).store.generation = 4)
      ∧ (largest.store.staged = some ⟨set5, 1, 1⟩ ∧ 4294967295 ≤ largest.store.generation)
      ∧ failure { set5 with cycle := defaultSet.cycle } = some ⟨5, .channel 5⟩ := by decide +kernel

/-- A valid set that moves channel 5 to another station, at the last generation that commits. -/
theorem witness_SetCommitTakesUpStagedSet :
    let set := { set5 with channels := set5.channels.set 5 { rec5 with station := 31 } }
    let s := node17.setStore ⟨set5, some ⟨set, 1, 0⟩, 4294967294⟩
    rx.ReceivedBy 17 s ∧ rx.dst = 17 ∧ s.store.staged = some ⟨set, 1, 0⟩ ∧ 1 = rx.src
      ∧ s.store.generation < 4294967295 ∧ failure set = none
      ∧ bindingChanged (s.record 5) (set.channels.get 5) = true
      ∧ bindingChanged (s.record 0) (set.channels.get 0) = false := by decide +kernel

/-- Channel 5 moved to station 31, the contact forced on in zone 2. -/
def movedSet : ConfigSet :=
  { set5 with
    channels := set5.channels.set 5 { rec5 with station := 31 }
    node := { defaultNode with contactZone := 2, contactSource := .forcedOn } }

/-- A pending change that the new deglitch time finds run out, and one whose deglitch time stays; the
effective contact rising, and staying ACTIVE with another zone; the exchange of the channel that moves; an
entry the set accepts and one it does not; the supply back in OK at ten samples in the window; changed
limits. -/
theorem witness_SetCommitChangesUnits :
    let pending := withContact .pin ⟨.inactive, some 99900⟩
    let longer := pending.setStore
      ⟨{ set5 with node := { defaultNode with contactDeglitchMs := 101, contactZone := 2 } }, none, 4⟩
    let forced := pending.setStore
      ⟨{ movedSet with node := { movedSet.node with contactZone := 1 } }, none, 4⟩
    let listed := inExchange (.channel 5 true) ⟨6, .hold, none⟩
    let supply := withSupply ⟨.low, false, 0, 0, 10, some 240, some 100000⟩
    (longer.zone.contact.pendingSince = some 99900
        ∧ longer.node.contactDeglitchMs ≠ movedSet.node.contactDeglitchMs
        ∧ movedSet.node.contactDeglitchMs ≤ longer.now - 99900)
      ∧ pending.node.contactDeglitchMs = movedSet.node.contactDeglitchMs
      ∧ (pending.effective = .inactive ∧ (pending.commit movedSet).effective = .active)
      ∧ (forced.effective = .active ∧ (forced.commit movedSet).effective = .active
          ∧ forced.node.contactZone ≠ movedSet.node.contactZone)
      ∧ (bindingChanged (listed.record 5) (movedSet.channels.get 5) = true
          ∧ listed.branch.exchange = some ⟨.channel 5 true, ⟨6, .hold, none⟩, 99995⟩
          ∧ (listed.channels.get 5).binding.status = .bound)
      ∧ (accepted movedSet 31 9 = true ∧ accepted movedSet 30 9 = false)
      ∧ [(5 : ChannelNo)].Pairwise (· < ·)
      ∧ (supply.supply.state ≠ .ok ∧ supply.supply.inWindow = 10 ∧ supply.supply.latched = false)
      ∧ ({ movedSet.node with supplyMin := 191 } : NodeRecord).supplyMin ≠ supply.node.supplyMin
      ∧ node17.NoticeLaw := by decide +kernel

/-- The same of the weather: a station silent at the new timeout and one that is not; a hold that the new
duration ends exactly and one that runs on; a frozen hold; both policies. -/
theorem witness_SetCommitChangesUnits_weather :
    let due := withWeather
      { stormy with stationTimer := some 70000, wet := true, rainHold := .running 99000 299000 }
    let hold := { weatherRec with policy := .holdLast, rainHoldMs := 300001 }
    let frozen := (withWeather ⟨true, true, true, 0, none, .frozen 300000, .stopped, none⟩).setStore
      ⟨{ set5 with weather := hold }, none, 4⟩
    (node17.WeatherLaw ∧ due.WeatherLaw ∧ frozen.WeatherLaw)
      ∧ (due.weather.stationTimer = some 70000 ∧ weatherRec.stationTimeoutMs ≤ due.now - 70000)
      ∧ ¬ (weatherRec.stationTimeoutMs ≤ node17.now - 100000)
      ∧ (weatherRec.rainHoldMs ≤ 299000 + (due.now - 99000) ∧ ¬ (hold.rainHoldMs ≤ 299000 + (due.now - 99000)))
      ∧ (weatherRec.rainHoldMs ≤ 300000 ∧ weatherRec.policy = .assumeStormRain ∧ hold.policy = .holdLast) := by
  decide +kernel

/-- Each state of a surviving engine; a dwell and a retry wait that the new length ends exactly; a retry
limit lowered to the count; S arriving and not; the same target and another. -/
theorem witness_SurvivingEngineFollowsCommit :
    let limited := { rec5 with retryLimit := 2, reversalDwellMs := 500, retryMs := 5000 }
    let calm : Result := ⟨50, .w, .windward, true, true, false⟩
    let smoke : Result := ⟨850, .s, .windward, true, false, false⟩
    (engine5.state = .idle ∧ smoke.target ≠ calm.target)
      ∧ (limited.reversalDwellMs ≤ node17.ctx.now - 99500 ∧ ¬ (limited.reversalDwellMs ≤ node17.ctx.now - 99501))
      ∧ (limited.retryMs ≤ node17.ctx.now - 95000 ∧ ¬ (limited.retryMs ≤ node17.ctx.now - 95001))
      ∧ (calm.layer ≠ .s ∧ 1 ≤ limited.retryLimit ∧ limited.retryLimit ≤ 2)
      ∧ (smoke.layer = .s ∧ calm.layer ≠ .s) := by decide +kernel

/-- A valid set, and one set for each requirement that fails, the ones before it holding. -/
theorem witness_ValidationNamesFirstFailure :
    let two := set5.channels.set 9 { rec5 with station := 9 }
    let cycled := { set5 with channels := two, cycle := set5.cycle.set 3 (.channel 9) }
    failure set5 = none ∧ failure cycled = none
      ∧ failure { set5 with layers := { defaultLayers with b := { defaultLayers.b with priority := 1 } } }
          = some ⟨1, .layer .b⟩
      ∧ failure { set5 with layers := { defaultLayers with f := { defaultLayers.f with
          priority := defaultLayers.s.priority } } } = some ⟨1, .layer .f⟩
      ∧ failure { set5 with layers := { defaultLayers with w := { defaultLayers.w with source := .cell } } }
          = some ⟨2, .layer .w⟩
      ∧ failure { cycled with channels := set5.channels.set 9 rec5 } = some ⟨3, .channel 9⟩
      ∧ failure { set5 with channels := set5.channels.set 5 { rec5 with travelMin := 901 } }
          = some ⟨4, .channel 5⟩
      ∧ failure { set5 with cycle := set5.cycle.set 23 (.channel 0) } = some ⟨5, .slot 23⟩
      ∧ failure { set5 with cycle := (Table.fill .idle).set 0 (.channel 5) } = some ⟨5, .none⟩
      ∧ failure { set5 with weather := { weatherRec with stormOff := 131 } } = some ⟨6, .none⟩
      ∧ failure { set5 with node := { defaultNode with supplyMax := defaultNode.supplyMin } }
          = some ⟨7, .none⟩ := by decide +kernel

theorem witness_SetDiscardClosesStaging : rx.ReceivedBy 17 (staging set5 9 3) ∧ rx.dst = 17 := by
  decide +kernel

/-- Codes 0, 8 and 9; indices at each end; copies 0, 1 and 2; a list with one entry. -/
theorem witness_ReadReturnsRecord :
    let listed := node17.setBranch { node17.branch with strangers := [⟨31, 9⟩] }
    rx.ReceivedBy 17 node17 ∧ rx.dst = 17 ∧ tableOf 0 = none ∧ 9 ≠ 8 ∧ tableOf 9 = none
      ∧ 8 ≤ 8 ∧ 7 < 8 ∧ listed.branch.strangers[0]? = some ⟨31, 9⟩ ∧ listed.branch.strangers[7]? = none
      ∧ tableOf 4 = some .group ∧ TableName.group.count ≤ 64 ∧ 63 < TableName.group.count
      ∧ node17.store.staged = none ∧ (staging set5 1 2).store.staged = some ⟨set5, 1, 2⟩ := by
  decide +kernel

theorem witness_RaiseKeepsOneRecordPerKind :
    ((node17.raise (.lost 5)).raise (.supply .low)).NoticeLaw
      ∧ node17.node.noticeMask.getLsbD (Notice.supply .ok).kind.bit = false := by decide +kernel

/-- A masked kind and an unmasked one, MAJOR and MINOR. -/
theorem witness_LineErrorIsLogged :
    let masked := node17.setStore ⟨{ set5 with node := { defaultNode with errorMask := 1 } }, none, 4⟩
    node17.repeater = false ∧ masked.node.errorMask.getLsbD ErrorKind.crcBad.bit = true
      ∧ node17.node.errorMask.getLsbD ErrorKind.crcBad.bit = false
      ∧ node17.node.errorSeverity.getLsbD ErrorKind.crcBad.bit = true
      ∧ node17.node.errorSeverity.getLsbD ErrorKind.branchCrc.bit = false := by decide +kernel

/-- No record, and records of the groups SAFETY and MOTION, under each end of the notice orders. -/
theorem witness_CollectTakesFirstOfferable :
    let s := (node17.raise (.lost 5)).raise .contact
    let last := s.setStore ⟨{ set5 with node := { defaultNode with noticeOrder := 5 } }, none, 4⟩
    rx.ReceivedBy 17 s ∧ rx.dst = 17 ∧ s.NoticeLaw ∧ node17.NoticeLaw ∧ last.NoticeLaw
      ∧ (∀ x ∈ node17.notice.notices, offerable node17.node x = false)
      ∧ (∃ x ∈ s.notice.notices, offerable s.node x = true)
      ∧ s.node.noticeOrder = 0 ∧ last.node.noticeOrder = 5
      ∧ Notice.contact.kind.group ≠ (Notice.lost 5).kind.group := by decide +kernel

theorem witness_QueryReportsState :
    rx.ReceivedBy 17 node17 ∧ rx.dst = 17 ∧ 15 < 16 ∧ 16 ≤ 16 ∧ 3 ≤ 3 := by decide +kernel

theorem witness_ErrorClearClearsLog : rx.ReceivedBy 17 node17 ∧ rx.dst = 17 := by decide +kernel

/-- The three mode sources; the default table's ascending order of the five layers. -/
theorem witness_FoldTakesLayersByPriority :
    failsV1 defaultLayers = none ∧ stack5.b = some (baseCell rec5)
      ∧ (defaultLayers.s.source = .channel ∧ defaultLayers.c.source = .cell ∧ defaultLayers.w.source = .layer)
      ∧ [Layer.c, .m, .w, .f, .s].Perm [.s, .f, .w, .m, .c]
      ∧ [Layer.c, .m, .w, .f, .s].Pairwise
          (fun x y => (defaultLayers.get x).priority < (defaultLayers.get y).priority) := by decide

/-- Channel 5 in each state the clauses name, with the S cell of zone 2 arriving or leaving; a stack as
it was, under a changed wind and not. -/
theorem witness_SettledChannelHandsOver :
    let smoke : Option Cell := some ⟨1000, .zone 2, none⟩
    let calm : Result := ⟨50, .w, .windward, true, true, false⟩
    let arrives := compose set5 stormy rec5 (stack5.set smoke .s)
    let leaves := compose set5 stormy rec5 ((stack5.set smoke .s).set none .s)
    rec5.inUse = true ∧ channel5.result = some calm
      ∧ stack5.set smoke .s ≠ stack5 ∧ ¬ (stack5 ≠ stack5 ∨ false = true)
      ∧ arrives.layer = .s ∧ calm.layer ≠ .s ∧ arrives.target ≠ calm.target
      ∧ leaves.layer ≠ .s ∧ (1 ≤ rec5.retryLimit ∧ rec5.retryLimit ≤ 3)
      ∧ engine5.state = .idle := by decide

/-- The first channel and value that are not listed and the last that are; the same of a clear, with a LATCHED
channel and one that is not. -/
theorem witness_LampSetAndChannelClearAct :
    let s := withEngine { engine5 with state := .latched, retryCount := 3 }
    rx.ReceivedBy 17 s ∧ rx.dst = 17 ∧ 16 ≤ 16 ∧ 4 ≤ 4 ∧ (15 : ChannelNo).1 = 15 ∧ (16 ≤ 254 ∧ 254 ≠ 255) ∧ 15 < 16
      ∧ (s.channels.get 5).engine.state = .latched ∧ (s.channels.get 5).result.isSome = true
      ∧ (s.channels.get 0).engine.state ≠ .latched := by decide +kernel

/-- Both timers exactly run out; a difference of the deadband and one more (50 per-mille at 30 mm); a target
ahead and one behind. -/
theorem witness_ExpiriesMoveTestAndRetarget :
    let d := withEngine { engine5 with state := .dwell, timer := some (.dwell 99500) }
    let r := withEngine { engine5 with state := .retryWait, timer := some (.retry 95000) }
    ((d.channels.get 5).result.isSome = true ∧ (d.channels.get 5).engine.state = .dwell
        ∧ (d.record 5).reversalDwellMs ≤ d.now - 99500)
      ∧ ((r.channels.get 5).engine.state = .retryWait ∧ (r.record 5).retryMs ≤ r.now - 95000)
      ∧ engine5.position = some 30 ∧ perMille rec5 30 = 50
      ∧ ¬ (rec5.deadband < apart 60 50) ∧ (rec5.deadband < apart 61 50 ∧ setpoint rec5 61 ≠ 30)
      ∧ ({ engine5 with state := .moving, direction := some .opening } : Engine).direction
          = some (directionTo 61 50)
      ∧ directionTo 39 50 = .closing ∧ rec5.detectors.noProgress = true := by
  decide +kernel

/-- Stopped a deadband off the target and one more; at the setpoint; at the end switch of its direction;
running; in DWELL and in IDLE; a detector that fires and none. -/
theorem witness_AnswerIsJudged :
    let moving := { engine5 with state := .moving, direction := some .opening, reference := some ⟨30, 100000⟩ }
    let high := { answer5 with running := true, current := 2500 }
    let run := { moving with overcurrentRun := some 99000 }
    perMille rec5 30 = 50 ∧ apart 60 50 ≤ rec5.deadband ∧ ¬ (apart 61 50 ≤ rec5.deadband)
      ∧ setpoint rec5 50 = 30 ∧ setpoint rec5 61 ≠ 30
      ∧ answer5.running = false ∧ { answer5 with openEnd := true }.openEnd = true
      ∧ moving.direction = some .opening ∧ high.running = true
      ∧ (evalDetectors 100000 rec5 high [.driveFlag, .overcurrent, .noProgress, .noLoad] run).2
          = some .overcurrent
      ∧ (evalDetectors 100000 rec5 answer5 [.driveFlag, .overcurrent] { moving with state := .dwell }).2
          = none
      ∧ engine5.state = .idle := by decide +kernel

/-- Each detector enabled and not; a current at stall_mA and noload_mA and one below; runs absent and of
exactly deglitch_ms; travel of progress_mm and one less; no reference. -/
theorem witness_DetectorsFireInOrder :
    let flagged := { answer5 with overtemperature := true }
    let run := { engine5 with overcurrentRun := some (100000 - rec5.deglitchMs) }
    let moved := { engine5 with reference := some ⟨30, 100000 - rec5.progressWindowMs⟩ }
    flagged.overtemperature = true
      ∧ (rec5.detectors.get .overcurrent = true
          ∧ (evalDetector 100000 rec5 { answer5 with current := rec5.stallMa } .overcurrent run).fired = true
          ∧ (evalDetector 100001 rec5 { answer5 with current := rec5.stallMa - 1 } .overcurrent run).fired
              = false)
      ∧ rec5.stallMa - 1 < rec5.stallMa ∧ engine5.armed.overcurrent = true ∧ engine5.overcurrentRun = none
      ∧ ({ rec5 with detectors := ⟨false, false, false, false⟩ } : ChannelRecord).detectors.get .noLoad = false
      ∧ (({ rec5 with noloadMa := 50 } : ChannelRecord).noloadMa = 49 + 1 ∧ engine5.armed.noLoad = true)
      ∧ (moved.reference.isSome = true ∧ engine5.reference = none) := by decide +kernel

/-- LATCH, RETRY at its limit and below it, RETRY without limit, REPORT_ONLY, and S deciding. -/
theorem witness_FaultActionsFollowConfiguration :
    engine5.retryCount ≤ 255 ∧ ({ engine5 with retryCount := 255 } : Engine).retryCount ≤ 255
      ∧ rec5.faultAction = .latch ∧ (some Layer.w ≠ some Layer.s)
      ∧ ({ rec5 with faultAction := .retry } : ChannelRecord).retryLimit ≤ min 255 (2 + 1)
      ∧ min 255 (1 + 1) < rec5.retryLimit
      ∧ ({ rec5 with faultAction := .retry, retryLimit := 0 } : ChannelRecord).retryLimit = 0
      ∧ ({ rec5 with faultAction := .reportOnly } : ChannelRecord).faultAction = .reportOnly := by decide

/-- Samples at and beside both ends of the window, with the counts of state OK. -/
theorem witness_SupplySampleQualifies :
    let s := withSupply ⟨.ok, false, 2, 0, 0, some 189, some 100000⟩
    (s.supply.nextSample = some 100000 ∧ 100000 ≤ s.now)
      ∧ min 189 400 < s.node.supplyMin ∧ ¬ (min 190 400 < s.node.supplyMin)
      ∧ s.node.supplyMax < min 301 400 ∧ ¬ (s.node.supplyMax < min 300 400)
      ∧ s.supply.below = 2 := by decide +kernel

/-- The counts in each state, one short of a change and at it. -/
theorem witness_SupplySampleQualifies_counts :
    (node17.supply.state = .ok ∧ node17.supply.below ≤ 1 ∧ node17.supply.nextSample = some 100000)
      ∧ (withSupply ⟨.low, true, 0, 1, 9, some 190, some 0⟩).supply.above ≤ 1
      ∧ 2 ≤ (withSupply ⟨.low, true, 0, 2, 9, some 190, some 0⟩).supply.above
      ∧ 9 ≤ (withSupply ⟨.low, false, 0, 0, 9, none, some 0⟩).supply.inWindow
      ∧ (withSupply ⟨.high, false, 2, 0, 8, none, some 0⟩).supply.inWindow ≤ 8 := by decide +kernel

theorem witness_SupplyClearNeedsSampleInWindow :
    let inside := withSupply ⟨.low, false, 0, 0, 0, some 190, none⟩
    let outside := withSupply ⟨.low, false, 0, 0, 0, some 189, none⟩
    rx.ReceivedBy 17 inside ∧ rx.dst = 17
      ∧ (inside.supply.last = some 190 ∧ inside.node.supplyMin ≤ 190 ∧ 190 ≤ inside.node.supplyMax)
      ∧ inside.supply.state ≠ .ok ∧ node17.supply.state = .ok ∧ node17.supply.last = some 240
      ∧ (outside.supply.last = some 189 ∧ ¬ (outside.node.supplyMin ≤ 189)) := by decide +kernel

/-- The start period exactly at its end; slot 1 before a channel's slot; slot 23 before slot 0; a farewell owed and none;
station 31 pointed to, station 6 claimed. -/
theorem witness_SlotStartSendsPoll :
    let last := node17.setBranch { node17.branch with schedule := .slot 23 99988, pointer := 31 }
    let first := node17.setBranch { node17.branch with schedule := .starting 99988 }
    let owed := last.setBranch { last.branch with farewell := [4, 9] }
    (node17.branch.schedule = .slot 1 99988 ∧ 99988 + 12 ≤ node17.now ∧ node17.branch.exchange = none)
      ∧ (first.branch.schedule = .starting 99988 ∧ first.branch.exchange = none)
      ∧ node17.branch.running.get 2 = .channel 5 ∧ (node17.record 5).inUse = true
      ∧ (last.branch.schedule = .slot 23 99988 ∧ last.store.active.cycle.get 0 = .discover
          ∧ last.branch.farewell = [] ∧ 1 ≤ last.branch.pointer ∧ last.branch.pointer ≤ 31
          ∧ last.branch.pointer = 31)
      ∧ owed.branch.farewell = 4 :: [9]
      ∧ (claimed last.store.active 31 = false ∧ claimed last.store.active 6 = true) := by decide +kernel

/-- The window's last millisecond; the bound drive's answer, the first answer of an unbound channel's
drive with no serial in the record and with another, and a garbled one; a farewell, an exchange no longer
counted, and a reception after the window. -/
theorem witness_AnswersBindAndServeChannels :
    let s := (inExchange (.channel 5 true) ⟨6, .stop, none⟩).setNow 100003
    let u := s.setChannels (s.channels.set 5 { channel5 with binding := Binding.none })
    let strict := u.setStore
      ⟨{ set5 with channels := set5.channels.set 5 { rec5 with serial := some 8 } }, none, 4⟩
    (s.branch.exchange = some ⟨.channel 5 true, ⟨6, .stop, none⟩, 99995⟩ ∧ s.now ≤ 99995 + 8
        ∧ (s.record 5).inUse = true)
      ∧ (validAnswer 6 answer5.chars = some answer5 ∧ (s.channels.get 5).binding.status = .bound
          ∧ (s.channels.get 5).binding.serial = some answer5.serial)
      ∧ ((u.channels.get 5).binding.status ≠ .bound ∧ (u.record 5).serial = none)
      ∧ ((strict.channels.get 5).binding.status ≠ .bound ∧ (strict.record 5).serial = some 8
          ∧ 8 ≠ answer5.serial)
      ∧ validAnswer 6 [0] = none
      ∧ (inExchange .farewell ⟨6, .stop, none⟩).branch.exchange = some ⟨.farewell, ⟨6, .stop, none⟩, 99995⟩
      ∧ (inExchange (.channel 5 false) ⟨6, .stop, none⟩).branch.exchange
          = some ⟨.channel 5 false, ⟨6, .stop, none⟩, 99995⟩
      ∧ node17.branch.exchange = none ∧ 99995 + 8 < (s.setNow 100004).now := by decide +kernel

/-- The window's last millisecond; miss counts 0, 1 and 2 of the bound channel; one not BOUND; a garbled
answer, a foreign one whose serial the record accepts and one it does not; the other exchanges. -/
theorem witness_MissesAreCountedToLoss :
    let at' := fun k => (inExchange k ⟨6, .stop, none⟩).setNow 100003
    let s := at' (.channel 5 true)
    let bound := fun k => s.setChannels (s.channels.set 5 { channel5 with binding := ⟨.bound, some 7, some k⟩ })
    let u := s.setChannels (s.channels.set 5 { channel5 with binding := Binding.none })
    let foreign := { answer5 with serial := 8 }
    let strict := (s.setStore
      ⟨{ set5 with channels := set5.channels.set 5 { rec5 with serial := some 7 } }, none, 4⟩)
    (99995 + 8 ≤ s.now ∧ s.now ≤ 99995 + 8)
      ∧ (s.branch.exchange = some ⟨.channel 5 true, ⟨6, .stop, none⟩, 99995⟩
          ∧ (s.channels.get 5).binding.status = .bound ∧ (s.channels.get 5).binding.misses = some 0)
      ∧ ((bound 1).channels.get 5).binding.misses = some 1
      ∧ (((bound 2).channels.get 5).binding.misses = some 2 ∧ ((bound 2).record 5).inUse = true)
      ∧ (u.channels.get 5).binding.status ≠ .bound
      ∧ validAnswer 6 [0] = none
      ∧ (validAnswer 6 foreign.chars = some foreign ∧ (s.channels.get 5).binding.serial ≠ some foreign.serial
          ∧ (s.record 5).serial = none)
      ∧ ((strict.record 5).serial = some 7 ∧ 7 ≠ foreign.serial)
      ∧ (at' .discovery).branch.exchange = some ⟨.discovery, ⟨6, .stop, none⟩, 99995⟩
      ∧ (at' .farewell).branch.exchange = some ⟨.farewell, ⟨6, .stop, none⟩, 99995⟩
      ∧ (at' (.channel 5 false)).branch.exchange = some ⟨.channel 5 false, ⟨6, .stop, none⟩, 99995⟩ := by
  decide +kernel

/-- An accepted pair; the list holding the pair, another serial, seven others and eight others. -/
theorem witness_DiscoveryAnswerFillsStrangerList :
    let s := inExchange .discovery ⟨6, .stop, none⟩
    let others : Nat → List Stranger := fun n => (List.range n).map fun i => ⟨10 + i, 1⟩
    (s.branch.exchange = some ⟨.discovery, ⟨6, .stop, none⟩, 99995⟩ ∧ s.now ≤ 99995 + 8
        ∧ validAnswer 6 answer5.chars = some answer5 ∧ validAnswer 6 [0] = none)
      ∧ accepted s.store.active 6 7 = true ∧ accepted defaultSet 6 7 = false
      ∧ (⟨6, 7⟩ : Stranger) ∉ [(⟨6, 8⟩ : Stranger)]
      ∧ (∀ y ∈ others 8, y.station ≠ 6) ∧ (others 7).length < 8 ∧ 8 ≤ (others 8).length := by
  decide +kernel

/-- Node 17 meets every law, and each step of it answers a next state. -/
theorem witness_StepKeepsNoticeLaw :
    node17.NoticeLaw ∧ step node17 = .next { node17 with now := 100001 } := ⟨by decide +kernel, rfl⟩

theorem witness_StepKeepsPortLaws : node17.PortLaw ∧ node17.ResetLaw := by decide +kernel

theorem witness_StepKeepsStackLaws : node17.CompositionLaw ∧ node17.CellLaw := by decide +kernel

theorem witness_StepKeepsEngineLaw : node17.EngineLaw := by decide +kernel

theorem witness_StepKeepsMotionLaws :
    node17.SmokeLaw ∧ node17.HoldLaw ∧ (withSupply ⟨.low, false, 0, 0, 0, none, none⟩).HoldLaw := by
  decide +kernel

theorem witness_StepKeepsRecordLaws :
    node17.WeatherLaw ∧ node17.SupplyLaw ∧ node17.SupervisionLaw ∧ node17.ContactLaw ∧ node17.BranchLaw := by
  decide +kernel

theorem witness_StepKeepsStoreLaw : node17.StoreLaw := by decide +kernel

theorem witness_RepeaterChangesPortsAndContactOnly :
    repeaterPart.repeater = true ∧ repeaterPart.RepeaterLaw
      ∧ exec (.linkUp .up) repeaterPart = .next (after (.linkUp .up) repeaterPart) :=
  ⟨by decide +kernel, by decide +kernel, rfl⟩

theorem witness_OnlyCommitsChangeActiveSet :
    exec (.setCommit rx 1 4) (staging set5 1 1) = .next (after (.setCommit rx 1 4) (staging set5 1 1)) := rfl

end Sys2Proof.Tests
end

/-! SUPPORT. Proofs of the fold's statement (R8, R10 to R12): the fold order is a stable sort by priority,
so any strictly ascending order of the five layers is the fold order. -/

namespace Sys2Proof.Machine

/-! ## The fold order (R10) -/

/-- One layer comes no later than another in the fold: its priority is no higher. -/
abbrev LayerTable.NoLater (t : LayerTable) : Layer → Layer → Prop :=
  (fun l => (t.get l).priority) ⁻¹'o (· ≤ ·)

theorem insertByPriority_eq_orderedInsert (t : LayerTable) (l : Layer) (ls : List Layer) :
    insertByPriority t l ls = ls.orderedInsert t.NoLater l := by
  induction ls with
  | nil => rfl
  | cons x rest ih => simp only [insertByPriority, List.orderedInsert_cons, ih, Order.Preimage]

theorem foldOrder_eq_insertionSort (t : LayerTable) :
    foldOrder t = [Layer.s, .f, .w, .m, .c].insertionSort t.NoLater := by
  have h : insertByPriority t = List.orderedInsert t.NoLater :=
    funext₂ (insertByPriority_eq_orderedInsert t)
  rw [foldOrder, h, List.insertionSort]

theorem foldOrder_perm (t : LayerTable) : (foldOrder t).Perm [.s, .f, .w, .m, .c] :=
  foldOrder_eq_insertionSort t ▸ List.perm_insertionSort _ _

theorem foldOrder_ascending (t : LayerTable) : (foldOrder t).Pairwise t.NoLater :=
  foldOrder_eq_insertionSort t ▸ List.pairwise_insertionSort _ _

/-- Where the priorities ascend strictly along an order, no other order ascends (R10). -/
theorem foldOrder_eq_of_strictly_ascending (t : LayerTable) (order : List Layer)
    (perm : order.Perm [.s, .f, .w, .m, .c])
    (ascending : order.Pairwise fun x y => (t.get x).priority < (t.get y).priority) :
    foldOrder t = order := by
  have distinct : (order.map fun l => (t.get l).priority).Nodup :=
    List.pairwise_map.mpr (ascending.imp Nat.ne_of_lt)
  have perm' : (foldOrder t).Perm order := (foldOrder_perm t).trans perm.symm
  refine List.Perm.eq_of_pairwise (fun x y hx hy hxy hyx => ?_) (foldOrder_ascending t)
    (ascending.imp fun h => Nat.le_of_lt h) perm'
  exact List.inj_on_of_nodup_map distinct (perm'.mem_iff.mp hx) hy (Nat.le_antisymm hxy hyx)

/-! ## V1 and the fold order (R141) -/

/-- V1 leaves no two layers of one priority. -/
theorem priority_injective_of_V1 (t : LayerTable) (h : failsV1 t = none) {x y : Layer}
    (same : (t.get x).priority = (t.get y).priority) : x = y := by
  have all : ∀ l : Layer, l ∈ layersInOrder := fun l => by cases l <;> decide
  have noRepeat : ∀ l ∈ layersInOrder, repeatsPriority t l = false := by
    unfold failsV1 at h
    split at h
    · cases h
    · simpa using h
  have notBefore : ∀ x y : Layer, (t.get x).priority = (t.get y).priority → y.index ≤ x.index := by
    intro x y same
    have := noRepeat y (all y)
    simp only [repeatsPriority, List.any_eq_false, Bool.and_eq_true, decide_eq_true_eq, not_and] at this
    exact Nat.le_of_not_lt fun before => this x (all x) before same
  have index : x.index = y.index := Nat.le_antisymm (notBefore y x same.symm) (notBefore x y same)
  have named (l : Layer) : layerOf l.index = some l := by cases l <;> rfl
  exact Option.some.inj ((named x).symm.trans (index ▸ named y))

/-- Where the table passes V1, the fold order ascends strictly. -/
theorem foldOrder_strictly_ascending (t : LayerTable) (h : failsV1 t = none) :
    (foldOrder t).Pairwise fun x y => (t.get x).priority < (t.get y).priority := by
  have nodup : (foldOrder t).Nodup := (foldOrder_perm t).nodup_iff.mpr (by decide)
  refine ((foldOrder_ascending t).and nodup).imp fun ⟨le, ne⟩ => ?_
  exact Nat.lt_of_le_of_ne le fun same => ne (priority_injective_of_V1 t h same)

/-! ## The deciding layer (R12) -/

/-- The running value is that of the deciding layer's cell, which is present. -/
def Running.Decided (st : Stack) (r : Running) : Prop :=
  ∃ cell, st.get r.layer = some cell ∧ r.value = cell.value

/-- What a cell can do to the running value: take it over with the decision, or leave both (R11). -/
theorem actOn_cases (mode : Mode) (l : Layer) (cell : Cell) (r : Running) :
    actOn mode l cell r = ⟨cell.value, l⟩ ∨ actOn mode l cell r = r := by
  cases mode with
  | override => exact Or.inl rfl
  | cap => exact ite_eq_or_eq _ _ _
  | floor => exact ite_eq_or_eq _ _ _

theorem foldStep_decided (t : LayerTable) (smokeMode : Mode) (st : Stack) (r : Running) (l : Layer)
    (h : r.Decided st) : (foldStep t smokeMode st r l).Decided st := by
  unfold foldStep
  split
  next cell present =>
    obtain takes | keeps := actOn_cases (effectiveMode t smokeMode l cell) l cell r
    · rw [takes]; exact ⟨cell, present, rfl⟩
    · rwa [keeps]
  next => exact h

theorem foldl_foldStep_decided (t : LayerTable) (smokeMode : Mode) (st : Stack) (ls : List Layer) :
    ∀ r : Running, r.Decided st → (ls.foldl (foldStep t smokeMode st) r).Decided st := by
  induction ls with
  | nil => exact fun _ h => h
  | cons l rest ih => exact fun r h => ih _ (foldStep_decided t smokeMode st r l h)

/-- Where the stack has the channel's B cell, the fold is decided by a present cell (R3, R12). -/
theorem foldCells_decided (t : LayerTable) (rec : ChannelRecord) (st : Stack)
    (h : st.b = some (baseCell rec)) : (foldCells t rec st).Decided st :=
  foldl_foldStep_decided t rec.smokeMode st _ _ ⟨baseCell rec, h, by simp [foldStart, h]⟩

/-- Settles O37: the fold order is the one strictly ascending order (R10), and the fold keeps the running
value that of a present cell (R12). -/
theorem foldTakesLayersByPriority : Obligations.FoldTakesLayersByPriority := by
  refine ⟨fun t smokeMode l cell => ?mode, fun l cell r => ?act, ?order, ?exists_order, ?decided⟩
  case mode =>
    refine ⟨fun source => ?_, fun source carried => ?_, fun source m carried => ?_, fun source => ?_⟩
      <;> simp_all [effectiveMode]
  case act =>
    refine ⟨rfl, fun below => ?_, fun notBelow => ?_, fun above => ?_, fun notAbove => ?_⟩
      <;> simp_all [actOn, Nat.not_lt_of_le]
  case order =>
    intro t rec st b order base perm ascending
    rw [foldCells, foldOrder_eq_of_strictly_ascending t order perm ascending, foldStart, base]
    rfl
  case exists_order =>
    exact fun t h => ⟨foldOrder t, foldOrder_perm t, foldOrder_strictly_ascending t h⟩
  case decided => exact foldCells_decided

end Sys2Proof.Machine

/-! SUPPORT. Proofs of the hand-over's statement (R18 to R20, R79, R91, R92). -/

namespace Sys2Proof.Machine

/-! ## Hand-overs by cases (R79, R91, R92) -/

theorem limitReached_iff (rec : ChannelRecord) (count : Nat) :
    limitReached rec count = true ↔ 1 ≤ rec.retryLimit ∧ rec.retryLimit ≤ count := by
  simp [limitReached]

section HandOver

variable (ctx : Ctx) (rec : ChannelRecord) (before after : Result) (e : Engine)

/-- S arrives at a LATCHED channel: it waits for a retry from now, whatever the target (R91). -/
theorem Engine.handOver_of_smoke_arrives (latched : e.state = .latched) (decides : after.layer = .s)
    (new : before.layer ≠ .s) : e.handOver ctx rec (some before) after = e.wait ctx.now := by
  have exempt : e.exempt ctx.now rec (some before.layer) after.layer = e.wait ctx.now := by
    simp [Engine.exempt, decides, latched]
  have changed : before.layer ≠ after.layer := decides ▸ new
  simp [Engine.handOver, changed, exempt, Engine.wait, Engine.rest]

/-- S leaves a waiting channel whose retry count has reached its limit: the channel latches (R92). -/
theorem Engine.handOver_of_smoke_leaves (waits : e.state = .retryWait) (decided : before.layer = .s)
    (gone : after.layer ≠ .s) (limit : limitReached rec e.retryCount = true) :
    e.handOver ctx rec (some before) after = e.rest .latched := by
  have exempt : e.exempt ctx.now rec (some before.layer) after.layer = e.rest .latched := by
    simp [Engine.exempt, decided, gone, waits, limit]
  have changed : before.layer ≠ after.layer := fun h => gone (h ▸ decided)
  simp [Engine.handOver, changed, exempt, Engine.rest]

/-- Neither of the deciding layer's rules applies: only a changed target acts (R79). -/
theorem Engine.handOver_of_no_layer_rule
    (asleep : ¬ (e.state = .latched ∧ after.layer = .s ∧ before.layer ≠ .s))
    (awake : ¬ (e.state = .retryWait ∧ before.layer = .s ∧ after.layer ≠ .s
      ∧ limitReached rec e.retryCount = true)) :
    e.handOver ctx rec (some before) after
      = if before.target = after.target then e
        else if e.state = .idle then e.moveTest ctx rec after.target
        else if e.state = .moving then e.retarget ctx rec after.target
        else e := by
  have layer : (if before.layer = after.layer then e
      else e.exempt ctx.now rec (some before.layer) after.layer) = e := by
    split
    · rfl
    next changed =>
      unfold Engine.exempt
      split
      next decides =>
        exact if_neg fun latched => asleep ⟨latched, decides, fun h => changed (h.trans decides.symm)⟩
      next gone =>
        refine if_neg fun ⟨decided, waits, limit⟩ => awake ⟨waits, ?_, gone, limit⟩
        exact Option.some.inj decided
  simp only [Engine.handOver, Option.map_some, Option.some.injEq, layer]
  cases e.state <;> simp

end HandOver

/-! ## Settling by cases (R18) -/

/-- A channel whose inputs the event left is not composed (R18). -/
theorem Channel.settle_of_unchanged (ctx : Ctx) (rec : ChannelRecord) (wind : Bool) (old : Stack)
    (c : Channel) (h : ¬ (c.stack ≠ old ∨ wind = true)) : c.settle ctx rec wind old = c :=
  if_neg fun hc => h hc.2

/-- A channel whose inputs the event changed is composed and handed over once (R18, R20). -/
theorem Channel.settle_of_changed (ctx : Ctx) (rec : ChannelRecord) (wind : Bool) (old : Stack)
    (c : Channel) (used : rec.inUse = true) (h : c.stack ≠ old ∨ wind = true) :
    c.settle ctx rec wind old = c.recompose ctx rec :=
  if_pos ⟨used, h⟩

/-- Settles O38, by the cases of the hand-over: the two rules of the deciding layer, and the changed target
where neither applies. -/
theorem settledChannelHandsOver : Obligations.SettledChannelHandsOver := by
  refine ⟨?settle, fun ctx rec l cell c => ⟨fun used => ?write_used, fun unused => ?write_unused⟩⟩
  case settle =>
    intro ctx rec wind old before c used recorded after e changed settled limit wakes latches d
    have composed (h : changed) : d = settled (e.handOver ctx rec (some before) after) := by
      simp only [d, c.settle_of_changed ctx rec wind old used h, Channel.recompose, recorded]
      rfl
    refine ⟨c.settle_of_unchanged ctx rec wind old, fun h wake => ?_, fun h latch => ?_,
      fun h target idle => ?_, fun h target moving => ?_, fun h noWake noLatch still => ?_⟩
    · obtain ⟨latched, decides, new⟩ := wake
      rw [composed h, Engine.handOver_of_smoke_arrives ctx rec before after e latched decides new]
      rfl
    · obtain ⟨waits, decided, gone, reached⟩ := latch
      rw [composed h, Engine.handOver_of_smoke_leaves ctx rec before after e waits decided gone
        ((limitReached_iff _ _).mpr reached)]
      rfl
    · rw [composed h, Engine.handOver_of_no_layer_rule ctx rec before after e (by simp [idle])
        (by simp [idle]), if_neg (Ne.symm target), if_pos idle]
    · rw [composed h, Engine.handOver_of_no_layer_rule ctx rec before after e (by simp [moving])
        (by simp [moving]), if_neg (Ne.symm target), if_neg (by simp [moving]), if_pos moving]
    · rw [composed h, Engine.handOver_of_no_layer_rule ctx rec before after e noWake
        (by rwa [limitReached_iff])]
      obtain target | ⟨notIdle, notMoving⟩ := still
      · rw [if_pos target.symm]
      · rw [if_neg notIdle, if_neg notMoving, ite_self]
  case write_used => rw [Channel.write, Channel.place_used _ _ _ _ used]
  case write_unused =>
    exact ⟨c.write_unused ctx rec l cell unused, fun wind old => c.settle_unused ctx rec wind old unused⟩

end Sys2Proof.Machine

/-! SUPPORT. The two laws of the demand stacks (R2, R3, R18; R30, R41, R57, R66, R71), and how the
operations that the commands share keep them. A change is of one of three kinds: it leaves what the laws
speak of (`State.SameDemand`); it places cells in an event that is settled at its end (`State.Placing`);
or it composes the channels it touches itself (a commit, a node reset, a drive's answer). -/

namespace Sys2Proof.Machine

/-! ## The laws, channel by channel -/

/-- The cells of a channel are those that its producers ask for, and its C cell is in order. -/
structure Channel.CellsFit (set : ConfigSet) (zones : Table ZoneRuntime 16) (lost : Bool)
    (w : WeatherRuntime) (n : ChannelNo) (rec : ChannelRecord) (c : Channel) : Prop where
  smoke : c.stack.s = smokeCell set zones rec
  fallback : c.stack.f = fallbackCell lost rec
  weather : c.stack.w = weatherCell set.weather.policy w rec
  key : c.binding.status ≠ .bound → c.stack.m = none
  comfort : comfortInOrder set.groups n c.stack.c = true

/-- The channel would fit the cell law as channel `n` of the state. -/
abbrev State.CellsFit (s : State) (n : ChannelNo) (c : Channel) : Prop :=
  c.CellsFit s.store.active s.zone.zones s.zone.supervision.lost s.weather n (s.record n)

theorem State.cellLaw_iff (s : State) :
    s.CellLaw ↔ ∀ n, (s.record n).inUse = true → s.CellsFit n (s.channels.get n) := by
  constructor
  · intro law n used
    obtain ⟨smoke, fallback, weather, key, comfort⟩ := law n used
    exact ⟨smoke, fallback, weather, key, comfort⟩
  · intro law n used
    obtain ⟨smoke, fallback, weather, key, comfort⟩ := law n used
    exact ⟨smoke, fallback, weather, key, comfort⟩

/-- The composition law for one channel: in use, it has its B cell and the composition of its inputs;
not in use, it has nothing. -/
structure Channel.Composed (set : ConfigSet) (w : WeatherRuntime) (rec : ChannelRecord) (c : Channel) :
    Prop where
  base : rec.inUse = true → c.stack.b = some (baseCell rec)
  result : rec.inUse = true → c.result = some (compose set w rec c.stack)
  unused : rec.inUse = false → c.stack = Stack.empty ∧ c.result = none

/-- The channel would fit the composition law as channel `n` of the state. -/
abbrev State.Composed (s : State) (n : ChannelNo) (c : Channel) : Prop :=
  c.Composed s.store.active s.weather (s.record n)

theorem State.compositionLaw_iff (s : State) :
    s.CompositionLaw ↔ ∀ n, s.Composed n (s.channels.get n) := by
  refine forall_congr' fun n => ?_
  cases used : (s.record n).inUse
  · exact ⟨fun law => ⟨by simp [used], by simp [used], fun _ => by simpa using law⟩,
      fun law => by simpa using law.unused used⟩
  · exact ⟨fun law => ⟨fun _ => by simpa using law.1, fun _ => by simpa using law.2, by simp [used]⟩,
      fun law => by simpa using ⟨law.base used, law.result used⟩⟩

/-- Each of the two laws goes over from the one state to the other. -/
structure State.KeepsStackLaws (s t : State) : Prop where
  composition : s.CompositionLaw → t.CompositionLaw
  cells : s.CellLaw → t.CellLaw

theorem State.KeepsStackLaws.refl (s : State) : s.KeepsStackLaws s := ⟨id, id⟩

theorem State.KeepsStackLaws.trans {s t u : State} (h : s.KeepsStackLaws t) (k : t.KeepsStackLaws u) :
    s.KeepsStackLaws u :=
  ⟨k.composition ∘ h.composition, k.cells ∘ h.cells⟩

/-! ## Changes that leave what the laws speak of -/

/-- Stack, result and binding status of a channel are as they were. -/
structure Channel.SameDemand (c d : Channel) : Prop where
  stack : d.stack = c.stack
  result : d.result = c.result
  status : d.binding.status = c.binding.status

theorem Channel.SameDemand.refl (c : Channel) : c.SameDemand c := ⟨rfl, rfl, rfl⟩

theorem Channel.SameDemand.trans {c d e : Channel} (h : c.SameDemand d) (k : d.SameDemand e) :
    c.SameDemand e :=
  ⟨k.stack.trans h.stack, k.result.trans h.result, k.status.trans h.status⟩

theorem Channel.SameDemand.composed {set : ConfigSet} {w : WeatherRuntime} {rec : ChannelRecord}
    {c d : Channel} (same : c.SameDemand d) (h : c.Composed set w rec) : d.Composed set w rec where
  base := same.stack ▸ h.base
  result := by rw [same.stack, same.result]; exact h.result
  unused := by rw [same.stack, same.result]; exact h.unused

theorem Channel.SameDemand.cellsFit {set : ConfigSet} {zones : Table ZoneRuntime 16} {lost : Bool}
    {w : WeatherRuntime} {n : ChannelNo} {rec : ChannelRecord} {c d : Channel} (same : c.SameDemand d)
    (h : c.CellsFit set zones lost w n rec) : d.CellsFit set zones lost w n rec where
  smoke := same.stack ▸ h.smoke
  fallback := same.stack ▸ h.fallback
  weather := same.stack ▸ h.weather
  key := by rw [same.stack, same.status]; exact h.key
  comfort := same.stack ▸ h.comfort

/-- The active set, what the producers of demand hold, and the demand of every channel are as they
were. -/
structure State.SameDemand (s t : State) : Prop where
  active : t.store.active = s.store.active
  zones : t.zone.zones = s.zone.zones
  lost : t.zone.supervision.lost = s.zone.supervision.lost
  weather : t.weather = s.weather
  channel : ∀ n, (s.channels.get n).SameDemand (t.channels.get n)

theorem State.SameDemand.of_blocks {s t : State} (active : t.store.active = s.store.active)
    (zone : t.zone = s.zone) (weather : t.weather = s.weather) (channels : t.channels = s.channels) :
    s.SameDemand t :=
  ⟨active, by rw [zone], by rw [zone], weather, fun n => channels ▸ .refl _⟩

theorem State.record_of_active {s t : State} (active : t.store.active = s.store.active)
    (n : ChannelNo) : t.record n = s.record n := by
  rw [State.record, active, State.record]

theorem State.SameDemand.keeps {s t : State} (same : s.SameDemand t) : s.KeepsStackLaws t where
  composition := by
    simp only [State.compositionLaw_iff, State.Composed, State.record_of_active same.active,
      same.active, same.weather]
    exact fun law n => (same.channel n).composed (law n)
  cells := by
    simp only [State.cellLaw_iff, State.CellsFit, State.record_of_active same.active, same.active,
      same.zones, same.lost, same.weather]
    exact fun law n used => (same.channel n).cellsFit (law n used)

theorem State.keeps_of_blocks {s t : State} (active : t.store.active = s.store.active)
    (zone : t.zone = s.zone) (weather : t.weather = s.weather) (channels : t.channels = s.channels) :
    s.KeepsStackLaws t :=
  (State.SameDemand.of_blocks active zone weather channels).keeps

/-! ## Changes of the channels alone -/

/-- A change of a channel that keeps each law for it, as channel `n` of the state. -/
structure State.KeepsChannel (s : State) (n : ChannelNo) (c d : Channel) : Prop where
  composition : s.Composed n c → s.Composed n d
  cells : (s.record n).inUse = true → s.CellsFit n c → s.CellsFit n d

theorem Channel.SameDemand.keeps {c d : Channel} (same : c.SameDemand d) (s : State) (n : ChannelNo) :
    s.KeepsChannel n c d :=
  ⟨same.composed, fun _ => same.cellsFit⟩

theorem State.keeps_setChannels (s : State) (t : Table Channel 16)
    (h : ∀ n, s.KeepsChannel n (s.channels.get n) (t.get n)) : s.KeepsStackLaws (s.setChannels t) where
  composition := by
    simp only [State.compositionLaw_iff]
    exact fun law n => (h n).composition (law n)
  cells := by
    simp only [State.cellLaw_iff]
    exact fun law n used => (h n).cells used (law n used)

theorem State.keeps_mapChannels (s : State) (f : ChannelNo → ChannelRecord → Channel → Channel)
    (h : ∀ n, s.KeepsChannel n (s.channels.get n) (f n (s.record n) (s.channels.get n))) :
    s.KeepsStackLaws (s.mapChannels f) :=
  s.keeps_setChannels _ fun n => by rw [Table.get_mapIdx]; exact h n

theorem State.keeps_setChannel (s : State) (n : ChannelNo) (d : Channel)
    (h : s.KeepsChannel n (s.channels.get n) d) :
    s.KeepsStackLaws (s.setChannels (s.channels.set n d)) := by
  refine s.keeps_setChannels _ fun m => ?_
  rw [Table.get_set]
  split
  next here => exact here ▸ h
  next => exact (Channel.SameDemand.refl _).keeps s m

theorem State.keeps_mapChannel (s : State) (n : ChannelNo) (f : ChannelRecord → Channel → Channel)
    (h : s.KeepsChannel n (s.channels.get n) (f (s.record n) (s.channels.get n))) :
    s.KeepsStackLaws (s.mapChannel n f) :=
  s.keeps_setChannel n _ h

/-! ## Changes of the engine alone -/

theorem Channel.onEngine_sameDemand (f : Engine → Engine) (c : Channel) :
    c.SameDemand (c.onEngine f) := ⟨rfl, rfl, rfl⟩

theorem Channel.moveTest_sameDemand (ctx : Ctx) (rec : ChannelRecord) (c : Channel) :
    c.SameDemand (c.moveTest ctx rec) := by
  unfold Channel.moveTest; split <;> exact c.onEngine_sameDemand _

theorem Channel.supplyBack_sameDemand (ctx : Ctx) (rec : ChannelRecord) (c : Channel) :
    c.SameDemand (c.supplyBack ctx rec) := by
  unfold Channel.supplyBack; split <;> [exact c.moveTest_sameDemand ctx rec; exact .refl c]

theorem Channel.clear_sameDemand (ctx : Ctx) (rec : ChannelRecord) (c : Channel) :
    c.SameDemand (c.clear ctx rec) := by
  unfold Channel.clear
  split
  · exact (c.onEngine_sameDemand _).trans (Channel.moveTest_sameDemand ctx rec _)
  · exact .refl c

theorem State.changeSupply_sameDemand (s : State) (u : Supply) : s.SameDemand (s.changeSupply u) where
  active := by simp
  zones := by simp
  lost := by simp
  weather := by simp
  channel n := by
    unfold State.changeSupply
    dsimp only
    split
    · rw [State.mapChannels_get]; exact Channel.onEngine_sameDemand _ _
    · split
      · rw [State.mapChannels_get]; exact Channel.supplyBack_sameDemand _ _ _
      · exact .refl _

/-! ## Events that place cells and are then settled (R18, R19) -/

/-- A channel in the midst of an event: cells but B's are placed if it is in use, and nothing is composed
yet. -/
structure Channel.Placed (rec : ChannelRecord) (c d : Channel) : Prop where
  base : d.stack.b = c.stack.b
  result : d.result = c.result
  unused : rec.inUse = false → d.stack = c.stack

theorem Channel.Placed.refl (rec : ChannelRecord) (c : Channel) : c.Placed rec c :=
  ⟨rfl, rfl, fun _ => rfl⟩

theorem Channel.Placed.trans {rec : ChannelRecord} {c d e : Channel} (h : c.Placed rec d)
    (k : d.Placed rec e) : c.Placed rec e :=
  ⟨k.base.trans h.base, k.result.trans h.result, fun un => (k.unused un).trans (h.unused un)⟩

theorem Stack.set_b (st : Stack) (cell : Option Cell) {l : Layer} (h : l ≠ .b) :
    (st.set cell l).b = st.b :=
  st.get_set_ne cell h.symm

theorem Channel.place_placed (rec : ChannelRecord) {l : Layer} (cell : Option Cell) (c : Channel)
    (h : l ≠ .b) : c.Placed rec (c.place rec l cell) where
  base := by
    unfold Channel.place
    split <;> [exact c.stack.set_b cell h; rfl]
  result := c.place_result rec l cell
  unused un := by rw [c.place_unused rec l cell un]

/-- The state in the midst of an event that began in `s`: cells are placed as their producers now ask,
and no channel is composed yet. -/
structure State.Placing (s t : State) : Prop where
  active : t.store.active = s.store.active
  channel : ∀ n, (s.channels.get n).Placed (s.record n) (t.channels.get n)
  cells : s.CellLaw → t.CellLaw

theorem State.Placing.trans {s t u : State} (h : s.Placing t) (k : t.Placing u) : s.Placing u where
  active := k.active.trans h.active
  channel n := (h.channel n).trans (State.record_of_active h.active n ▸ k.channel n)
  cells := k.cells ∘ h.cells

theorem State.SameDemand.placing {s t : State} (same : s.SameDemand t) : s.Placing t where
  active := same.active
  channel n :=
    ⟨by rw [(same.channel n).stack], (same.channel n).result, fun _ => (same.channel n).stack⟩
  cells := same.keeps.cells

theorem State.Placing.refl (s : State) : s.Placing s :=
  (State.SameDemand.of_blocks rfl rfl rfl rfl : s.SameDemand s).placing

/-- A producer's state has become that of `t`, and the channels are placed to match. -/
theorem State.placing_mapChannels {s t : State} (f : ChannelNo → ChannelRecord → Channel → Channel)
    (active : t.store.active = s.store.active) (channels : t.channels = s.channels)
    (placed : ∀ n rec c, Channel.Placed rec c (f n rec c))
    (cells : ∀ n c, (t.record n).inUse = true → s.CellsFit n c → t.CellsFit n (f n (t.record n) c)) :
    s.Placing (t.mapChannels f) where
  active := active
  channel n := by
    rw [State.mapChannels_get, channels, State.record_of_active active]
    exact placed n _ _
  cells := by
    simp only [State.cellLaw_iff, State.mapChannels_get, channels]
    exact fun law n used => cells n _ used (law n (State.record_of_active active n ▸ used))

/-- A composition reads of the weather only the readings and the station state (R19). -/
theorem compose_of_wind_unchanged (set : ConfigSet) {old w : WeatherRuntime} (rec : ChannelRecord)
    (st : Stack) (h : old.windChanged w = false) : compose set w rec st = compose set old rec st := by
  have same : (w.speed = old.speed ∧ w.direction = old.direction) ∧ w.lost = old.lost := by
    simpa [WeatherRuntime.windChanged] using h
  obtain ⟨⟨speed, direction⟩, lost⟩ := same
  simp [compose, windClass, assumesWorst, speed, direction, lost]

/-- An event keeps both laws once it is settled: each channel it changed is composed (R18), and the
composition of the others reads nothing that changed (R19). -/
theorem State.Placing.settle {s t : State} (h : s.Placing t) : s.KeepsStackLaws (t.settle s) where
  composition := by
    simp only [State.compositionLaw_iff]
    intro law n
    have same : (t.settle s).record n = s.record n := State.record_of_active h.active n
    rw [State.Composed, same, State.settle_get, State.record_of_active h.active]
    refine ⟨fun used => ?_, fun used => ?_, fun unused => ?_⟩
    · rw [Channel.settle_stack, (h.channel n).base]
      exact (law n).base used
    · rw [Channel.settle_stack]
      refine Channel.settle_result _ _ _ _ _ used fun stack wind => ?_
      rw [(h.channel n).result, (law n).result used, stack]
      exact congrArg some ((compose_of_wind_unchanged _ _ _ wind).symm.trans
        (congrArg (compose · _ _ _) h.active.symm))
    · rw [Channel.settle_unused _ _ _ _ _ unused, (h.channel n).unused unused, (h.channel n).result]
      exact (law n).unused unused
  cells law := by
    have placed := (State.cellLaw_iff t).mp (h.cells law)
    refine (State.cellLaw_iff _).mpr fun n used => ?_
    have fit := placed n used
    rw [State.settle_get]
    exact
      { smoke := by rw [Channel.settle_stack]; exact fit.smoke
        fallback := by rw [Channel.settle_stack]; exact fit.fallback
        weather := by rw [Channel.settle_stack]; exact fit.weather
        key := by rw [Channel.settle_stack, Channel.settle_binding]; exact fit.key
        comfort := by rw [Channel.settle_stack]; exact fit.comfort }

/-! ### The producers of demand -/

theorem zonePosition_congr (role : Role) (rec : ZoneRecord) {zone zone' : ZoneRuntime}
    (episode : zone'.episode = zone.episode) :
    zonePosition role rec zone' = zonePosition role rec zone := by
  unfold zonePosition
  rw [episode]

/-- The S cell reads of a zone that the channel is in whether it is in ALARM, and its episode (R30). -/
theorem smokeCell_congr (set : ConfigSet) {zones zones' : Table ZoneRuntime 16} (rec : ChannelRecord)
    (h : ∀ z : ZoneNo, rec.zones.getLsbD z.1 = true →
      (zones'.get z).alarm = (zones.get z).alarm ∧ (zones'.get z).episode = (zones.get z).episode) :
    smokeCell set zones' rec = smokeCell set zones rec := by
  have take : takeZone set zones' rec = takeZone set zones rec := by
    funext best z
    unfold takeZone
    cases inZone : rec.zones.getLsbD z.1
    · rfl
    · obtain ⟨alarm, episode⟩ := h z inZone
      rw [zonePosition_congr rec.role (set.zones.get z) episode, alarm]
  rw [smokeCell, take, smokeCell]

/-- A zone's record is replaced, and the S cells of the channels in the zone are placed (R27, R31). -/
theorem State.placing_recomputeSmoke (s : State) (z : ZoneNo) (r : ZoneRuntime) :
    s.Placing ((s.setZoneRuntime z r).recomputeSmoke z) := by
  refine State.placing_mapChannels _ rfl rfl (fun n rec c => ?_) fun n c used fit => ?_
  · split <;> [exact c.place_placed rec _ (by decide); exact .refl rec c]
  · split
    · rw [c.place_used _ _ _ used]
      exact { fit with smoke := rfl }
    next outside =>
      have smoke := smokeCell_congr s.store.active (zones := s.zone.zones)
        (zones' := s.zone.zones.set z r) (s.record n) fun y inZone => by
          have other : y ≠ z := fun same => outside (same ▸ inZone)
          simp [Table.get_set_ne _ _ other]
      exact { fit with smoke := fit.smoke.trans smoke.symm }

/-- Panel supervision takes a state, and the F cells are placed (R39 to R41). -/
theorem State.placing_fallback (s : State) (v : Supervision) :
    s.Placing (s.setZone { s.zone with supervision := v }).placeFallback := by
  refine State.placing_mapChannels _ rfl rfl (fun n rec c => c.place_placed rec _ (by decide))
    fun n c used fit => ?_
  rw [c.place_used _ _ _ used]
  exact { fit with fallback := rfl }

/-- The weather record is replaced, and the W cells are placed (R57, R58). -/
theorem State.placing_changeWeather (s : State) (w : WeatherRuntime) :
    s.Placing (s.changeWeather w) := by
  refine State.placing_mapChannels _ rfl rfl (fun n rec c => c.place_placed rec _ (by decide))
    fun n c used fit => ?_
  rw [c.place_used _ _ _ used]
  exact { fit with weather := rfl }

/-- Panel supervision sees a frame (R38, R40). -/
theorem State.placing_hear (s : State) (src : Nat) : s.Placing (s.hear src) := by
  unfold State.hear
  split
  · split
    · exact s.placing_fallback _
    next ok =>
      split
      · exact State.SameDemand.placing
          ⟨rfl, rfl, ((Bool.not_eq_true _).mp ok).symm, rfl, fun n => .refl _⟩
      · exact .refl s
  · exact .refl s

theorem State.keeps_supervise (s : State) (src : Nat) : s.KeepsStackLaws (s.supervise src) :=
  (s.placing_hear src).settle

/-! ## Events that compose every channel themselves -/

/-- A node reset places and composes the demand of every in-use channel anew (R22). -/
theorem State.keeps_nodeReset (s : State) : s.KeepsStackLaws s.nodeReset where
  composition := by
    simp only [State.compositionLaw_iff]
    intro law n
    have channel : s.nodeReset.channels.get n = resetChannel s (s.record n) (s.channels.get n) :=
      Table.get_mapIdx _ _ _
    rw [channel]
    refine ⟨fun used => ?_, fun used => if_pos used, fun unused => ?_⟩
    · replace used : (s.record n).inUse = true := used
      change _ = some (baseCell (s.record n))
      simpa [resetChannel, used, resetStack] using (law n).base used
    · replace unused : (s.record n).inUse = false := unused
      simpa [resetChannel, unused] using (law n).unused unused
  cells _ := by
    refine (State.cellLaw_iff _).mpr fun n used => ?_
    have channel : s.nodeReset.channels.get n = resetChannel s (s.record n) (s.channels.get n) :=
      Table.get_mapIdx _ _ _
    have stack : (s.nodeReset.channels.get n).stack
        = resetStack s (s.record n) (s.channels.get n).stack := by
      rw [channel]; exact if_pos used
    exact
      { smoke := by rw [stack]; rfl
        fallback := by rw [stack]; rfl
        weather := by rw [stack]; rfl
        key := fun _ => by rw [stack]; rfl
        comfort := by rw [stack]; rfl }

/-- At power-on no channel is in use, and none has cells or a result (R2, R23). -/
theorem State.keeps_powerOn (s : State) (straps : Nat) (rate : LineRate) (contact : Level) :
    s.KeepsStackLaws (s.powerOn straps rate contact) := by
  have unused : ∀ n, ((s.powerOn straps rate contact).record n).inUse = false := fun n => by
    simp [State.powerOn, State.record, defaultSet, defaultChannelRecord]
  have channel : ∀ n, (s.powerOn straps rate contact).channels.get n = Channel.powerOn :=
    fun n => Table.get_fill _ n
  refine ⟨fun _ n => ?_, fun _ n used => ?_⟩
  · rw [unused n, channel n]
    exact ⟨rfl, rfl⟩
  · rw [unused n] at used
    cases used

section Commit

variable (s : State) (new : ConfigSet)

theorem State.commitSupply_sameDemand : s.SameDemand s.commitSupply := by
  unfold State.commitSupply
  split
  · exact s.changeSupply_sameDemand _
  · exact .of_blocks rfl rfl rfl rfl

theorem State.commit_active : (s.commit new).store.active = new :=
  (State.commitSupply_sameDemand _).active

theorem State.commit_record (n : ChannelNo) : (s.commit new).record n = new.channels.get n := by
  rw [State.record, s.commit_active]

theorem State.commit_weather :
    (s.commit new).weather = s.weather.commit s.now s.store.active.weather new.weather :=
  (State.commitSupply_sameDemand _).weather

theorem State.commit_zones : (s.commit new).zone.zones = (s.commitZone new).zones :=
  (State.commitSupply_sameDemand _).zones

theorem State.commit_lost :
    (s.commit new).zone.supervision.lost = (s.commitZone new).supervision.lost :=
  (State.commitSupply_sameDemand _).lost

/-- What engines read at a commit: the new set and the weather as the commit leaves it. -/
abbrev State.commitCtx : Ctx :=
  ⟨new, s.weather.commit s.now s.store.active.weather new.weather, decide (s.supply.state = .ok), s.now⟩

/-- The commit leaves every channel with the demand that `commitChannel` gives it; the supply's return
changes engines alone. -/
theorem State.commit_channel (n : ChannelNo) :
    (commitChannel (s.commitCtx new) (s.commitZone new) n (s.record n) (new.channels.get n)
      (s.channels.get n)).SameDemand ((s.commit new).channels.get n) := by
  have h := (State.commitSupply_sameDemand _ : State.SameDemand _ (s.commit new)).channel n
  rwa [Table.get_mapIdx] at h

/-- After a commit every channel is composed, whatever it held before (R21). -/
theorem State.commit_compositionLaw : (s.commit new).CompositionLaw := by
  refine (State.compositionLaw_iff _).mpr fun n => ?_
  refine ⟨fun used => ?_, s.commit_composed new n, fun unused => ?_⟩
  · rw [(s.commit_channel new n).stack]
    rw [s.commit_record] at used ⊢
    simp [commitChannel, used, commitStack]
  · rw [(s.commit_channel new n).stack, (s.commit_channel new n).result]
    rw [s.commit_record] at unused
    simp [commitChannel, unused]

/-- The C cell that a commit keeps is in order under the new groups (R67). -/
theorem keptComfort_inOrder (old groups : Table (BitVec 16) 64) (n : ChannelNo) (cell : Option Cell)
    (h : comfortInOrder old n cell = true) :
    comfortInOrder groups n (keptComfort groups n cell) = true := by
  unfold keptComfort
  split
  next v g m =>
    have small : v ≤ 1000 := by simp_all [comfortInOrder]
    split
    next member => simp [comfortInOrder, member, small]
    next => rfl
  next => rfl

theorem inUse_of_not_bindingChanged {old rec : ChannelRecord} (h : bindingChanged old rec = false) :
    old.inUse = rec.inUse := by
  have same : (old.inUse = rec.inUse ∧ old.station = rec.station) ∧ old.serial = rec.serial := by
    simpa [bindingChanged] using h
  exact same.1.1

/-- After a commit the cells are those that the producers ask for under the new set: M goes with its
binding, and C only stays where it stood in order (R21, R67, R72). -/
theorem State.commit_cellLaw (law : s.CellLaw) : (s.commit new).CellLaw := by
  refine (State.cellLaw_iff _).mpr fun n used => ?_
  have fit := (State.cellLaw_iff s).mp law n
  have stack : ((s.commit new).channels.get n).stack
      = commitStack new (s.commitZone new) (s.commitCtx new).weather n (s.record n)
          (new.channels.get n) (s.channels.get n).stack := by
    rw [(s.commit_channel new n).stack]
    rw [s.commit_record] at used
    simp [commitChannel, used]
  have status : ((s.commit new).channels.get n).binding.status
      = (if bindingChanged (s.record n) (new.channels.get n) then Binding.none
          else (s.channels.get n).binding).status := by
    rw [(s.commit_channel new n).status]
    unfold commitChannel
    dsimp only
    split <;> rfl
  rw [State.CellsFit, s.commit_active, s.commit_zones, s.commit_lost, s.commit_weather,
    s.commit_record]
  rw [s.commit_record] at used
  have key : ((s.commit new).channels.get n).stack.m
      = if bindingChanged (s.record n) (new.channels.get n) then none
        else (s.channels.get n).stack.m := by rw [stack]; rfl
  have comfort : ((s.commit new).channels.get n).stack.c
      = if (s.record n).inUse then keptComfort new.groups n (s.channels.get n).stack.c
        else none := by rw [stack]; rfl
  refine ⟨by rw [stack]; rfl, by rw [stack]; rfl, by rw [stack]; rfl, ?_, ?_⟩
  · rw [key, status]
    split
    · exact fun _ => rfl
    next kept =>
      have same := inUse_of_not_bindingChanged ((Bool.not_eq_true _).mp kept)
      exact (fit (same.trans used)).key
  · rw [comfort]
    split
    next before => exact keptComfort_inOrder _ _ _ _ (fit before).comfort
    next => rfl

end Commit

/-! ## Frames (R151 to R156) -/

theorem State.keeps_logOption (s : State) (k : Option ErrorKind) (p : TrunkPort) (f : Frame) :
    s.KeepsStackLaws (s.logOption k p f) :=
  State.keeps_of_blocks (by simp) (by simp) (by simp) (by simp)

theorem State.keeps_logFrame (s : State) (k : ErrorKind) (p : TrunkPort) (f : Frame) :
    s.KeepsStackLaws (s.logFrame k p f) :=
  s.keeps_logOption (some k) p f

theorem State.keeps_logError (s : State) (k : ErrorKind) (p : ErrorPort) (c : Captured) :
    s.KeepsStackLaws (s.logError k p c) :=
  State.keeps_of_blocks (by simp) (by simp) (by simp) (by simp)

theorem State.keeps_raise (s : State) (x : Notice) : s.KeepsStackLaws (s.raise x) :=
  State.keeps_of_blocks rfl rfl rfl rfl

theorem State.keeps_raiseOption (s : State) (x : Option Notice) :
    s.KeepsStackLaws (s.raiseOption x) :=
  State.keeps_of_blocks (by simp) (by simp) (by simp) (by simp)

theorem State.keeps_setTrunk (s : State) (t : Trunk) : s.KeepsStackLaws (s.setTrunk t) :=
  State.keeps_of_blocks rfl rfl rfl rfl

theorem State.keeps_setFreeCount (s : State) (k : Nat) : s.KeepsStackLaws (s.setFreeCount k) :=
  State.keeps_of_blocks rfl rfl rfl rfl

theorem State.keeps_setPort (s : State) (p : TrunkPort) (x : Port) :
    s.KeepsStackLaws (s.setPort p x) :=
  s.keeps_setTrunk _

theorem State.keeps_setBranch (s : State) (b : Branch) : s.KeepsStackLaws (s.setBranch b) :=
  State.keeps_of_blocks rfl rfl rfl rfl

theorem State.keeps_forward (s : State) (p : TrunkPort) (f : Frame) :
    s.KeepsStackLaws (s.forward p f).1 :=
  State.keeps_of_blocks (by simp) (by simp) (by simp) (by simp)

theorem State.keeps_forwardOnly (s : State) (p : TrunkPort) (f : Frame) :
    s.KeepsStackLaws (s.forwardOnly p f) :=
  (s.keeps_forward p f).trans (State.keeps_logOption _ _ p f)

/-- A reply, and the node reset that a discarded reply brings about (R155, R159). -/
theorem State.keeps_reply (s : State) (p : TrunkPort) (f : Frame) (a : Nat) (status : Status)
    (body : List Byte) (reset : Bool) : s.KeepsStackLaws (s.reply p f a status body reset) := by
  unfold State.reply
  dsimp only
  split
  · split
    · exact (s.keeps_setPort p _).trans (State.keeps_setTrunk _ _)
    · exact s.keeps_setPort p _
  · split
    · exact (s.keeps_logFrame _ p f).trans (State.keeps_nodeReset _)
    · exact s.keeps_logFrame _ p f
  · split
    · exact s.keeps_nodeReset
    · exact .refl s

/-- Whatever state an owner finds, it and the panel supervision before it keep both laws. -/
def Owner.KeepsStackLaws (o : Owner) : Prop :=
  ∀ (src : Nat) (s : State), s.KeepsStackLaws (o.run src s).state

/-- An owner that writes no demand cell acts after supervision is settled. -/
theorem Owner.keeps_of_plain {act : State → Acted} (h : ∀ s : State, s.KeepsStackLaws (act s).state) :
    Owner.KeepsStackLaws ⟨false, act⟩ :=
  fun src s => (s.keeps_supervise src).trans (h _)

/-- An owner that places demand cells shares supervision's one settling. -/
theorem Owner.keeps_of_demand {act : State → Acted} (h : ∀ s : State, s.Placing (act s).state) :
    Owner.KeepsStackLaws ⟨true, act⟩ :=
  fun src s => ((s.placing_hear src).trans (h _)).settle

theorem State.keeps_consume (s : State) (p : TrunkPort) (f : Frame) (a : Nat) (act : State → Acted)
    (h : s.KeepsStackLaws (act s).state) : s.KeepsStackLaws (s.consume p f a act) :=
  (h.trans (State.keeps_logOption _ _ p f)).trans (State.keeps_reply _ p f a _ _ _)

theorem State.keeps_actAndForward (s : State) (p : TrunkPort) (f : Frame) (act : State → Acted)
    (h : s.KeepsStackLaws (act s).state) : s.KeepsStackLaws (s.actAndForward p f act) := by
  have forwarded := h.trans (State.keeps_forward _ p f)
  unfold State.actAndForward
  dsimp only
  split
  · have counted := fun k => forwarded.trans (State.keeps_setFreeCount _ k)
    split
    · exact ((counted _).trans (State.keeps_logFrame _ _ p f)).trans (State.keeps_logFrame _ _ p f)
    · exact ((counted _).trans (State.keeps_logFrame _ _ p f)).trans (State.keeps_logFrame _ _ p f)
  · exact forwarded.trans (State.keeps_logFrame _ _ p f)
  · exact forwarded.trans (State.keeps_logOption _ _ p f)

/-- A received frame keeps both laws where its owner does. -/
theorem State.keeps_receive (s : State) (p : TrunkPort) (f : Frame) (owner : Option Owner)
    (h : ∀ o ∈ owner, o.KeepsStackLaws) : s.KeepsStackLaws (s.receive p f owner) := by
  obtain ⟨-, repeater⟩ | ⟨-, loop⟩ | ⟨a, -, -, arrived⟩ := s.receive_cases p f owner
  · exact repeater ▸ s.keeps_forwardOnly p f
  · exact loop ▸ s.keeps_logFrame _ p f
  · obtain ⟨-, o, ho, acts⟩ | ⟨-, -, acts⟩ | ⟨-, -, -, o, ho, acts⟩ | ⟨-, -, acts⟩ := arrived
    · exact acts ▸ s.keeps_consume p f a _ (h o ho f.src s)
    · exact acts ▸ s.keeps_supervise f.src
    · exact acts ▸ s.keeps_actAndForward p f _ (h o ho f.src s)
    · exact acts ▸ (s.keeps_supervise f.src).trans (State.keeps_forwardOnly _ p f)

end Sys2Proof.Machine

/-! SUPPORT. Every command keeps the two laws of the demand stacks: what each owner of a frame kind, each
timed event and each outcome on the branch line does to them, and the step lemma. -/

namespace Sys2Proof.Machine

/-! ## Owners that place demand cells -/

theorem actZoneAlarm_keeps (zone : Nat) (episode : Option Positions) :
    Owner.KeepsStackLaws ⟨true, actZoneAlarm zone episode⟩ := by
  refine Owner.keeps_of_demand fun s => ?_
  unfold actZoneAlarm
  split
  · exact .refl s
  · split
    · exact s.placing_recomputeSmoke _ _
    · exact .refl s

/-- A reset that the contact blocks marks the zone alone, which no S cell reads (R28, R36). -/
theorem State.placing_resetBlocked (s : State) (z : ZoneNo) :
    s.Placing (s.setZoneRuntime z { s.zone.zones.get z with resetBlocked := true }) where
  active := rfl
  channel n := .refl _ _
  cells := by
    simp only [State.cellLaw_iff]
    intro law n used
    have fit := law n used
    have smoke := smokeCell_congr s.store.active (zones := s.zone.zones)
      (zones' := s.zone.zones.set z { s.zone.zones.get z with resetBlocked := true }) (s.record n)
      fun y _ => by
        by_cases same : y = z
        · subst same; simp
        · simp [Table.get_set_ne _ _ same]
    exact { fit with smoke := fit.smoke.trans smoke.symm }

theorem actZoneReset_keeps (zone : Nat) : Owner.KeepsStackLaws ⟨true, actZoneReset zone⟩ := by
  refine Owner.keeps_of_demand fun s => ?_
  unfold actZoneReset
  split
  · exact .refl s
  · split
    · exact s.placing_resetBlocked _
    · exact s.placing_recomputeSmoke _ _

theorem actWeather_keeps (src speed direction rain : Nat) :
    Owner.KeepsStackLaws ⟨true, actWeather src speed direction rain⟩ := by
  refine Owner.keeps_of_demand fun s => ?_
  unfold actWeather
  split
  · exact s.placing_changeWeather _
  · exact .refl s

/-- C cells are placed that are absent or of a group the channel is in, with a value in range (R64,
R66). -/
theorem State.placing_comfort (s : State) (applies : ChannelNo → Channel → Bool) (cell : Option Cell)
    (inOrder : ∀ n c, applies n c = true → comfortInOrder s.store.active.groups n cell = true) :
    s.Placing (s.mapChannels fun n rec c => if applies n c then c.place rec .c cell else c) := by
  refine State.placing_mapChannels _ rfl rfl (fun n rec c => ?_) fun n c used fit => ?_
  · split <;> [exact c.place_placed rec _ (by decide); exact .refl rec c]
  · split
    next member =>
      rw [c.place_used _ _ _ used]
      exact { fit with comfort := inOrder n c member }
    next => exact fit

theorem actGroupSet_keeps (group position mode : Nat) :
    Owner.KeepsStackLaws ⟨true, actGroupSet group position mode⟩ := by
  refine Owner.keeps_of_demand fun s => ?_
  unfold actGroupSet
  split
  next g m _ _ =>
    refine s.placing_comfort (fun n _ => (s.store.active.groups.get g).getLsbD n.1)
      (some ⟨min position 1000, .group g, m⟩) fun n _ member => ?_
    simpa [comfortInOrder] using member
  next => exact .refl s

theorem actGroupRelease_keeps (group : Nat) :
    Owner.KeepsStackLaws ⟨true, actGroupRelease group⟩ := by
  refine Owner.keeps_of_demand fun s => ?_
  unfold actGroupRelease
  split
  next g _ =>
    exact s.placing_comfort
      (fun n c => (s.store.active.groups.get g).getLsbD n.1 && comfortOf g c.stack.c) none
      fun _ _ _ => rfl
  next => exact .refl s

/-- A commit needs nothing of the state but its cells in order, as supervision leaves them; its own
composition is the event's (R21, R142). -/
theorem State.keeps_hear_commit (s : State) (src : Nat) (new : ConfigSet) :
    s.KeepsStackLaws (((s.hear src).commit new).settle s) := by
  rw [State.settle_commit]
  exact ⟨fun _ => State.commit_compositionLaw _ new,
    fun law => State.commit_cellLaw _ new ((s.placing_hear src).cells law)⟩

theorem actSetCommit_keeps (src tally generation : Nat) :
    Owner.KeepsStackLaws ⟨true, actSetCommit src tally generation⟩ := by
  have outcome (s : State) : (actSetCommit src tally generation s).state = s
      ∨ ∃ new, (actSetCommit src tally generation s).state = s.commit new := by
    unfold actSetCommit
    split
    · exact .inl rfl
    next x _ =>
      split_ifs
      any_goals exact .inl rfl
      split
      · exact .inl rfl
      · exact .inr ⟨x.set, rfl⟩
  intro sender s
  change s.KeepsStackLaws ((actSetCommit src tally generation (s.hear sender)).state.settle s)
  obtain refused | ⟨new, accepted⟩ := outcome (s.hear sender)
  · rw [refused]; exact (s.placing_hear sender).settle
  · rw [accepted]; exact s.keeps_hear_commit sender new

/-! ## Owners that write no demand cell -/

theorem actBadLength_keeps (kind : FrameKind) : Owner.KeepsStackLaws ⟨false, actBadLength kind⟩ :=
  Owner.keeps_of_plain fun s => s.keeps_setFreeCount _

theorem State.keeps_setStaged (s : State) (x : Option Staged) : s.KeepsStackLaws (s.setStaged x) :=
  State.keeps_of_blocks rfl rfl rfl rfl

theorem actSetWrite_keeps (src table index : Nat) (record : List Byte) :
    Owner.KeepsStackLaws ⟨false, actSetWrite src table index record⟩ := by
  refine Owner.keeps_of_plain fun s => ?_
  unfold actSetWrite
  split
  · exact .refl s
  · split
    · exact s.keeps_setFreeCount _
    · split
      · exact .refl s
      · split
        · exact .refl s
        · split
          · exact s.keeps_setStaged _
          · exact .refl s

theorem actSetDiscard_keeps : Owner.KeepsStackLaws ⟨false, actSetDiscard⟩ :=
  Owner.keeps_of_plain fun s => s.keeps_setStaged none

/-- An owner that only answers. -/
theorem Owner.keeps_of_answer {act : State → Acted} (h : ∀ s, (act s).state = s) :
    Owner.KeepsStackLaws ⟨false, act⟩ :=
  Owner.keeps_of_plain fun s => (h s).symm ▸ .refl s

theorem actRead_keeps (table index copy : Nat) :
    Owner.KeepsStackLaws ⟨false, actRead table index copy⟩ := by
  refine Owner.keeps_of_answer fun s => ?_
  unfold actRead
  split
  · split_ifs <;> rfl
  · split
    · rfl
    · split_ifs
      · rfl
      · rfl
      · split <;> rfl
      · rfl

theorem actQuery_keeps (subject index : Nat) :
    Owner.KeepsStackLaws ⟨false, actQuery subject index⟩ := by
  refine Owner.keeps_of_answer fun s => ?_
  unfold actQuery
  split
  · split <;> rfl
  · split <;> rfl
  · split <;> rfl
  · rfl

theorem actCollect_keeps : Owner.KeepsStackLaws ⟨false, actCollect⟩ := by
  refine Owner.keeps_of_plain fun s => ?_
  unfold actCollect
  split
  · exact State.keeps_of_blocks rfl rfl rfl rfl
  · exact .refl s

theorem actLampSet_keeps (channel value : Nat) :
    Owner.KeepsStackLaws ⟨false, actLampSet channel value⟩ := by
  refine Owner.keeps_of_plain fun s => ?_
  unfold actLampSet
  split
  next n x _ _ =>
    exact s.keeps_mapChannel n (fun _ c => c.onEngine fun e => { e with lampOverride := x })
      ((Channel.onEngine_sameDemand _ _).keeps s n)
  next => exact .refl s

theorem actChannelClear_keeps (channel : Nat) :
    Owner.KeepsStackLaws ⟨false, actChannelClear channel⟩ := by
  refine Owner.keeps_of_plain fun s => ?_
  unfold actChannelClear
  split
  · exact s.keeps_mapChannels _ fun n => (Channel.clear_sameDemand _ _ _).keeps s n
  · split
    · exact s.keeps_mapChannel _ _ ((Channel.clear_sameDemand _ _ _).keeps s _)
    · exact .refl s

theorem actErrorClear_keeps : Owner.KeepsStackLaws ⟨false, actErrorClear⟩ :=
  Owner.keeps_of_plain fun _ => State.keeps_of_blocks rfl rfl rfl rfl

theorem actSupplyClear_keeps : Owner.KeepsStackLaws ⟨false, actSupplyClear⟩ := by
  refine Owner.keeps_of_plain fun s => ?_
  unfold actSupplyClear
  split
  · dsimp only
    split
    · exact .refl s
    · exact (s.changeSupply_sameDemand _).keeps
  · exact .refl s

/-! ## The branch line -/

theorem State.keeps_addStranger (s : State) (x : Stranger) : s.KeepsStackLaws (s.addStranger x) := by
  unfold State.addStranger
  dsimp only
  split_ifs
  · exact .refl s
  · exact (s.keeps_setBranch _).trans (State.keeps_raise _ _)
  · exact (s.keeps_setBranch _).trans (State.keeps_raise _ _)
  · exact s.keeps_setBranch _

/-- An M cell for a BOUND channel, or its absence, leaves the cells in order (R71). -/
theorem Channel.CellsFit.of_set_key {set : ConfigSet} {zones : Table ZoneRuntime 16} {lost : Bool}
    {w : WeatherRuntime} {n : ChannelNo} {rec : ChannelRecord} {c d : Channel} {cell : Option Cell}
    (h : c.CellsFit set zones lost w n rec) (stack : d.stack = c.stack.set cell .m)
    (key : d.binding.status ≠ .bound → cell = none) : d.CellsFit set zones lost w n rec where
  smoke := by rw [stack]; exact h.smoke
  fallback := by rw [stack]; exact h.fallback
  weather := by rw [stack]; exact h.weather
  key := by rw [stack]; exact key
  comfort := by rw [stack]; exact h.comfort

/-- A write of a cell other than B composes the channel it changes (R1, R18). -/
theorem Channel.Composed.write {ctx : Ctx} {rec : ChannelRecord} {c : Channel}
    (h : c.Composed ctx.set ctx.weather rec) {l : Layer} (notBase : l ≠ .b) (cell : Option Cell) :
    (c.write ctx rec l cell).Composed ctx.set ctx.weather rec where
  base used := by rw [c.write_stack ctx rec l cell used, Stack.set_b _ _ notBase]; exact h.base used
  result used := c.write_result ctx rec l cell used (h.result used)
  unused un := by rw [c.write_unused ctx rec l cell un]; exact h.unused un

/-- A write of the M cell, before and after which the channel's other fields may change. -/
theorem State.keepsChannel_write_key (s : State) (n : ChannelNo) (cell : Option Cell) {c c' d : Channel}
    (before : c.stack = c'.stack ∧ c.result = c'.result)
    (after : (c'.write s.ctx (s.record n) .m cell).SameDemand d)
    (key : c'.binding.status ≠ .bound → cell = none) : s.KeepsChannel n c d where
  composition h := by
    obtain ⟨stack, result⟩ := before
    have composed : c'.Composed s.ctx.set s.ctx.weather (s.record n) :=
      ⟨stack ▸ h.base, by rw [← stack, ← result]; exact h.result,
        by rw [← stack, ← result]; exact h.unused⟩
    exact after.composed (composed.write (by decide) cell)
  cells used h := by
    refine h.of_set_key (cell := cell) ?_ ?_
    · rw [after.stack, c'.write_stack _ _ _ _ used, before.1]
    · rw [after.status, c'.write_binding]
      exact key

/-- An answer of the bound drive writes the key's cell, whatever its judgement makes of the engine (R70,
R111). -/
theorem State.keepsChannel_heard (s : State) (n : ChannelNo) (a : Answer) (command : DriveCommand)
    (e : Engine) {c : Channel} (bound : c.binding.status = .bound) :
    s.KeepsChannel n c { c.heard s.ctx (s.record n) a command with engine := e } := by
  refine s.keepsChannel_write_key n (keyCell a.key)
    (c' := { c with binding := { c.binding with misses := some 0 } }) ⟨rfl, rfl⟩ ?_
    fun unbound => absurd bound unbound
  unfold Channel.heard
  dsimp only
  split <;> exact ⟨rfl, rfl, rfl⟩

theorem State.keeps_boundAnswer (s : State) (n : ChannelNo) (a : Answer) (command : DriveCommand)
    (bound : (s.channels.get n).binding.status = .bound) :
    s.KeepsStackLaws (s.boundAnswer n a command) :=
  (s.keeps_setChannel n _ (s.keepsChannel_heard n a command _ bound)).trans
    (State.keeps_raiseOption _ _)

/-- The third miss in a row takes the M cell away (R71, R113). -/
theorem State.keepsChannel_lose (s : State) (n : ChannelNo) (c : Channel) :
    s.KeepsChannel n c (c.lose s.ctx (s.record n)) :=
  s.keepsChannel_write_key n none
    (c' := { c with
      binding := { c.binding with status := .lost, misses := none }
      engine := c.engine.lose })
    ⟨rfl, rfl⟩ (.refl _) fun _ => rfl

theorem State.keeps_miss (s : State) (n : ChannelNo) : s.KeepsStackLaws (s.miss n) := by
  unfold State.miss
  dsimp only
  split
  · exact (s.keeps_mapChannel n _ (s.keepsChannel_lose n _)).trans (State.keeps_raise _ _)
  · refine s.keeps_mapChannel n _ (Channel.SameDemand.keeps ?_ s n)
    exact ⟨rfl, rfl, rfl⟩

section Bind

variable (ctx : Ctx) (rec : ChannelRecord)

/-- The key's cell written at a binding, composed without a hand-over (R78). -/
theorem Channel.writeKey_stack (k : Key) (c : Channel) (used : rec.inUse = true) :
    (c.writeKey ctx rec k).stack = c.stack.set (keyCell k) .m := by
  unfold Channel.writeKey
  split
  · rfl
  next same =>
    have there : c.stack.get .m = keyCell k := by simpa [used, Stack.get] using same
    rw [← there, Stack.set_get]

theorem Channel.Composed.writeKey {ctx : Ctx} {rec : ChannelRecord} {c : Channel}
    (h : c.Composed ctx.set ctx.weather rec) (k : Key) :
    (c.writeKey ctx rec k).Composed ctx.set ctx.weather rec := by
  unfold Channel.writeKey
  split
  next changed => exact ⟨h.base, fun _ => rfl, fun un => by simp [un] at changed⟩
  next => exact h

/-- The move test of a binding changes the engine alone, after the key's write. -/
theorem Channel.bind_demand (a : Answer) (c : Channel) :
    (c.bind ctx rec a).stack = (c.writeKey ctx rec a.key).stack
      ∧ (c.bind ctx rec a).result = (c.writeKey ctx rec a.key).result := by
  have same := Channel.moveTest_sameDemand ctx rec ((c.writeKey ctx rec a.key).onEngine (Engine.bind a))
  exact ⟨same.stack, same.result⟩

end Bind

/-- The answer that binds a channel (R78, R114). -/
theorem State.keepsChannel_bind (s : State) (n : ChannelNo) (a : Answer) (c : Channel) :
    s.KeepsChannel n c (c.bind s.ctx (s.record n) a) := by
  obtain ⟨stack, result⟩ := c.bind_demand s.ctx (s.record n) a
  refine ⟨fun h => ?_, fun used h => ?_⟩
  · have composed := Channel.Composed.writeKey (ctx := s.ctx) h a.key
    exact ⟨stack ▸ composed.base, by rw [stack, result]; exact composed.result,
      by rw [stack, result]; exact composed.unused⟩
  · exact h.of_set_key (stack.trans (c.writeKey_stack _ _ a.key used)) fun unbound => absurd rfl unbound

theorem State.keeps_bindChannel (s : State) (n : ChannelNo) (a : Answer) :
    s.KeepsStackLaws (s.bindChannel n a) :=
  ((s.keeps_setBranch _).trans
    (State.keeps_mapChannel _ n _ (State.keepsChannel_bind _ n a _))).trans (State.keeps_raise _ _)

theorem State.keeps_channelAnswer (s : State) (n : ChannelNo) (a : Answer) (command : DriveCommand) :
    s.KeepsStackLaws (s.channelAnswer n a command) := by
  unfold State.channelAnswer
  dsimp only
  split
  next bound =>
    split_ifs
    · exact s.keeps_boundAnswer n a command bound
    · exact s.keeps_miss n
    · exact (s.keeps_addStranger _).trans (State.keeps_miss _ n)
  next =>
    split
    · exact s.keeps_bindChannel n a
    · exact s.keeps_addStranger _

theorem State.keeps_channelMiss (s : State) (n : ChannelNo) : s.KeepsStackLaws (s.channelMiss n) := by
  unfold State.channelMiss
  split <;> [exact s.keeps_miss n; exact .refl s]

theorem State.keeps_goodAnswer (s : State) (x : Exchange) (a : Answer) :
    s.KeepsStackLaws (s.goodAnswer x a) := by
  unfold State.goodAnswer
  split
  · exact s.keeps_channelAnswer _ a _
  · exact .refl s
  · exact .refl s
  · unfold State.discoveryAnswer
    split <;> [exact .refl s; exact s.keeps_addStranger _]

theorem State.keeps_garbledAnswer (s : State) (x : Exchange) :
    s.KeepsStackLaws (s.garbledAnswer x) := by
  unfold State.garbledAnswer
  dsimp only
  split
  · exact (s.keeps_logError _ _ _).trans (State.keeps_channelMiss _ _)
  · exact s.keeps_logError _ _ _

theorem State.keeps_noAnswer (s : State) (x : Exchange) : s.KeepsStackLaws (s.noAnswer x) := by
  unfold State.noAnswer
  split
  · exact s.keeps_channelMiss _
  · exact .refl s
  · exact .refl s
  · exact s.keeps_setBranch _

theorem State.keeps_closeWindow (s : State) : s.KeepsStackLaws s.closeWindow := by
  unfold State.closeWindow
  split
  · exact .refl s
  · exact (s.keeps_setBranch _).trans (State.keeps_noAnswer _ _)

theorem State.keeps_startSlot (s : State) (index : Fin 24) (start : Nat) :
    s.KeepsStackLaws (s.startSlot index start) :=
  (s.keeps_setBranch _).trans (State.keeps_setBranch _ _)

/-! ## Lines and the contact -/

theorem State.keeps_endTransmission (s : State) (p : TrunkPort) :
    s.KeepsStackLaws (s.endTransmission p) := by
  unfold State.endTransmission
  split
  · exact .refl s
  · dsimp only
    split
    · exact (s.keeps_setPort p _).trans (State.keeps_nodeReset _)
    · exact s.keeps_setPort p _

/-- A change of the contact, which no cell reads (R32). -/
theorem State.setContact_sameDemand (s : State) (c : Contact) :
    s.SameDemand (s.setZone { s.zone with contact := c }) :=
  ⟨rfl, rfl, rfl, rfl, fun _ => .refl _⟩

/-- A contact alarm places the S cells of the contact zone (R35). -/
theorem State.placing_contactAlarm (s : State) : s.Placing s.contactAlarm := by
  have raised (t : State) : t.SameDemand (t.raise .contact) := .of_blocks rfl rfl rfl rfl
  exact (s.placing_recomputeSmoke _ _).trans (raised _).placing

theorem State.keeps_acceptContact (s : State) : s.KeepsStackLaws s.acceptContact := by
  unfold State.acceptContact
  dsimp only
  split
  · exact ((s.setContact_sameDemand _).placing.trans (State.placing_contactAlarm _)).settle
  · exact (s.setContact_sameDemand _).keeps

/-! ## Commands -/

/-- Whatever next state the command answers, both laws go over to it. -/
def State.OutcomeKeeps (s : State) (o : Host.Outcome State Fault Refusal) : Prop :=
  ∀ t, o = .next t → s.KeepsStackLaws t

theorem State.KeepsStackLaws.next {s t : State} (h : s.KeepsStackLaws t) : s.OutcomeKeeps (.next t) :=
  fun _ same => Host.Outcome.next.inj same ▸ h

theorem State.OutcomeKeeps.ite {s : State} {p : Prop} [Decidable p]
    {o o' : Host.Outcome State Fault Refusal} (h : s.OutcomeKeeps o) (k : s.OutcomeKeeps o') :
    s.OutcomeKeeps (if p then o else o') := by
  split <;> assumption

/-- An event that has not come about changes nothing. -/
theorem State.KeepsStackLaws.whenDue {s t : State} (h : s.KeepsStackLaws t) (p : Prop) [Decidable p] :
    s.OutcomeKeeps (if p then .next t else .next s) :=
  h.next.ite (State.KeepsStackLaws.refl s).next

/-- A frame whose owner keeps both laws. -/
theorem State.receive_outcomeKeeps (s : State) (p : TrunkPort) (f : Frame) {o : Owner}
    (h : o.KeepsStackLaws) : s.OutcomeKeeps (.next (s.receive p f (some o))) :=
  (s.keeps_receive p f (some o) fun _ same => Option.some.inj same ▸ h).next

/-- Every frame command keeps both laws. -/
theorem execFrame_keeps (c : Instr) (s : State) : s.OutcomeKeeps (execFrame c s) := by
  cases c
  case unknownKind => exact s.receive_outcomeKeeps _ _ (Owner.keeps_of_answer fun _ => rfl)
  case zoneAlarm => exact s.receive_outcomeKeeps _ _ (actZoneAlarm_keeps _ _)
  case zoneReset => exact s.receive_outcomeKeeps _ _ (actZoneReset_keeps _)
  case weather => exact s.receive_outcomeKeeps _ _ (actWeather_keeps _ _ _ _)
  case groupSet => exact s.receive_outcomeKeeps _ _ (actGroupSet_keeps _ _ _)
  case groupRelease => exact s.receive_outcomeKeeps _ _ (actGroupRelease_keeps _)
  case setWrite => exact s.receive_outcomeKeeps _ _ (actSetWrite_keeps _ _ _ _)
  case setCommit => exact s.receive_outcomeKeeps _ _ (actSetCommit_keeps _ _ _)
  case setDiscard => exact s.receive_outcomeKeeps _ _ actSetDiscard_keeps
  case read => exact s.receive_outcomeKeeps _ _ (actRead_keeps _ _ _)
  case query => exact s.receive_outcomeKeeps _ _ (actQuery_keeps _ _)
  case collect => exact s.receive_outcomeKeeps _ _ actCollect_keeps
  case lampSet => exact s.receive_outcomeKeeps _ _ (actLampSet_keeps _ _)
  case channelClear => exact s.receive_outcomeKeeps _ _ (actChannelClear_keeps _)
  case errorClear => exact s.receive_outcomeKeeps _ _ actErrorClear_keeps
  case supplyClear => exact s.receive_outcomeKeeps _ _ actSupplyClear_keeps
  case nodeReset => exact s.receive_outcomeKeeps _ _ (Owner.keeps_of_answer fun _ => rfl)
  all_goals exact (State.KeepsStackLaws.refl s).next

theorem ownerOfRest_keeps (f : Frame) : ∀ o ∈ ownerOfRest f, o.KeepsStackLaws := by
  unfold ownerOfRest
  split
  · simp
  next k _ _ => exact fun o same => Option.some.inj same ▸ actBadLength_keeps k
  · simp

theorem execFrameReception_keeps (p : TrunkPort) (period : Nat) (chars : List Byte) (s : State) :
    s.OutcomeKeeps (execFrameReception p period chars s) := by
  refine (State.KeepsStackLaws.refl s).next.ite ?_
  split
  · exact (s.keeps_logError _ _ _).next
  · exact (s.keeps_logError _ _ _).next
  · split
    · exact execFrame_keeps _ s
    · exact (s.keeps_receive p _ _ (ownerOfRest_keeps _)).next

theorem execSlotStart_keeps (s : State) : s.OutcomeKeeps (execSlotStart s) := by
  unfold execSlotStart
  split
  · exact (State.KeepsStackLaws.refl s).next
  · exact (s.keeps_closeWindow.trans (State.keeps_startSlot _ _ _)).whenDue _
  · exact (s.keeps_closeWindow.trans (State.keeps_startSlot _ _ _)).whenDue _

theorem execBranchReception_keeps (chars : List Byte) (s : State) :
    s.OutcomeKeeps (execBranchReception chars s) := by
  have ended : s.KeepsStackLaws s.endExchange := s.keeps_setBranch _
  unfold execBranchReception
  split
  · exact (State.KeepsStackLaws.refl s).next
  · refine State.OutcomeKeeps.ite ?_ (State.KeepsStackLaws.refl s).next
    split
    · exact (ended.trans (State.keeps_goodAnswer _ _ _)).next
    · exact (ended.trans (State.keeps_garbledAnswer _ _)).next

theorem execAnswerWindowClose_keeps (s : State) : s.OutcomeKeeps (execAnswerWindowClose s) := by
  unfold execAnswerWindowClose
  split
  · exact (State.KeepsStackLaws.refl s).next
  · exact s.keeps_closeWindow.whenDue _

theorem execSupplySample_keeps (reading : Nat) (s : State) :
    s.OutcomeKeeps (execSupplySample reading s) := by
  have counted (u : Supply) : s.KeepsStackLaws (s.setSupply u) :=
    State.keeps_of_blocks rfl rfl rfl rfl
  refine State.OutcomeKeeps.ite (State.OutcomeKeeps.ite ?_ ?_) (State.KeepsStackLaws.refl s).next
  · exact (counted _).next
  · exact (s.changeSupply_sameDemand _).keeps.next

theorem execLinkDown_keeps (p : TrunkPort) (s : State) : s.OutcomeKeeps (execLinkDown p s) :=
  State.OutcomeKeeps.ite ((s.keeps_setPort p _).trans (State.keeps_nodeReset _)).next
    (s.keeps_setPort p _).next

theorem execNodeResetTakesEffect_keeps (s : State) : s.OutcomeKeeps (execNodeResetTakesEffect s) :=
  (s.keeps_endTransmission .up).next.ite ((s.keeps_endTransmission .down).whenDue _)

/-- The move test at the end of a dwell or a wait (R82, R89). -/
theorem State.keeps_moveTest (s : State) (n : ChannelNo) :
    s.KeepsStackLaws (s.mapChannel n fun rec c => c.moveTest s.ctx rec) :=
  s.keeps_mapChannel n _ ((Channel.moveTest_sameDemand _ _ _).keeps s n)

/-- Every command keeps both laws: the frame commands by their owners, the others by their event. -/
theorem exec_keeps (c : Instr) (s : State) : s.OutcomeKeeps (exec c s) := by
  have frame := execFrame_keeps c s
  cases c
  case powerOn => exact (s.keeps_powerOn _ _ _).next
  case linkDown p => exact execLinkDown_keeps p s
  case linkUp p => exact (s.keeps_setPort p _).next
  case frameReception p period chars => exact execFrameReception_keeps p period chars s
  case nodeResetTakesEffect => exact execNodeResetTakesEffect_keeps s
  case transmissionEnd p => exact (s.keeps_endTransmission p).next
  case transmissionStart p => exact (s.keeps_setPort p _).whenDue _
  case contactInputChange => exact (s.setContact_sameDemand _).keeps.next
  case pendingChangeAccepted => exact s.keeps_acceptContact.whenDue _
  case panelTimeout => exact (s.placing_fallback _).settle.whenDue _
  case rainHoldExpiry => exact (s.placing_changeWeather _).settle.whenDue _
  case stormHoldExpiry => exact (s.placing_changeWeather _).settle.whenDue _
  case stationTimeout => exact (s.placing_changeWeather _).settle.whenDue _
  case dwellExpiry n => exact (s.keeps_moveTest n).whenDue _
  case retryExpiry n => exact (s.keeps_moveTest n).whenDue _
  case supplySample reading => exact execSupplySample_keeps reading s
  case slotStart => exact execSlotStart_keeps s
  case branchReception chars => exact execBranchReception_keeps chars s
  case answerWindowClose => exact execAnswerWindowClose_keeps s
  all_goals exact frame

theorem step_keeps (s : State) : s.OutcomeKeeps (step s) := by
  unfold step
  split
  · exact (State.keeps_of_blocks rfl rfl rfl rfl : s.KeepsStackLaws s.tick).next
  next c rest _ =>
    have popped : s.KeepsStackLaws (s.setPending rest) := State.keeps_of_blocks rfl rfl rfl rfl
    exact fun t ran => popped.trans (exec_keeps c _ t ran)

/-- Settles O54, by the step lemma: every command keeps each of the two laws. -/
theorem stepKeepsStackLaws : Obligations.StepKeepsStackLaws := fun s t ran =>
  ⟨(step_keeps s t ran).composition, (step_keeps s t ran).cells⟩

end Sys2Proof.Machine

/-! SUPPORT. Zones, contact and panel supervision (chapter 2): what a received frame's event comes to when
its owner places cells or refuses, and the statements about ZONE_ALARM, ZONE_RESET, fields out of range,
the contact and panel supervision. -/

namespace Sys2Proof.Machine

/-! ## Receiving a frame of a broadcast kind (R152, R153) -/

/-- A frame for the node, addressed or broadcast, whose owner reports nothing: the owner acts, then the
reply ACCEPTED or the forwarding follows. -/
theorem State.receive_of_acts (s : State) (p : TrunkPort) (f : Frame) (o : Owner) (a : Nat) (t : State)
    (address : s.trunk.address = some a) (notLooped : f.src ≠ a) (here : f.dst = a ∨ f.dst = 0)
    (kind : f.isBroadcast = true) (acts : o.run f.src s = Acted.ok [] t) :
    s.receive p f (some o) = t.passOn p f a := by
  unfold State.receive State.passOn
  simp only [address, if_neg notLooped]
  split
  · simp [State.consume, acts, Acted.ok, State.logOption]
  next elsewhere =>
    have broadcast : f.dst = 0 := here.resolve_left elsewhere
    simp [broadcast, kind, State.actAndForward, acts, Acted.ok, State.forwardOnly]

/-- A frame addressed to the node, on which its owner acts. -/
theorem State.receive_addressed (s : State) (p : TrunkPort) (f : Frame) (o : Owner) (a : Nat)
    (address : s.trunk.address = some a) (notLooped : f.src ≠ a) (here : f.dst = a) :
    s.receive p f (some o) = s.consume p f a (o.run f.src) := by
  simp [State.receive, address, notLooped, here]

/-- A broadcast frame, on which its owner acts. -/
theorem State.receive_broadcast (s : State) (p : TrunkPort) (f : Frame) (o : Owner) (a : Nat)
    (address : s.trunk.address = some a) (notLooped : f.src ≠ a) (elsewhere : f.dst ≠ a)
    (broadcast : f.dst = 0) (kind : f.isBroadcast = true) :
    s.receive p f (some o) = s.actAndForward p f (o.run f.src) := by
  unfold State.receive
  simp only [address, if_neg notLooped, if_neg elsewhere]
  rw [if_pos ⟨broadcast, kind⟩]

theorem zoneAlarmFrame_isBroadcast (rx : Rx) (z : Nat) (e : Option Positions) :
    (zoneAlarmFrame rx z e).isBroadcast = true := rfl
theorem zoneResetFrame_isBroadcast (rx : Rx) (z : Nat) :
    (zoneResetFrame rx z).isBroadcast = true := rfl
theorem groupSetFrame_isBroadcast (rx : Rx) (g q m : Nat) :
    (groupSetFrame rx g q m).isBroadcast = true := rfl
theorem groupReleaseFrame_isBroadcast (rx : Rx) (g : Nat) :
    (groupReleaseFrame rx g).isBroadcast = true := rfl

/-! ## Events that began in a state and leave what a composition reads (R18) -/

/-- An event that leaves the channels and the weather as they were has nothing to settle. -/
theorem State.settle_of_channels (s old : State) (channels : s.channels = old.channels)
    (weather : s.weather = old.weather) : s.settle old = s := by
  have same : (s.settle old).channels = s.channels := Table.ext fun n => by
    rw [State.settle_get, weather, channels, WeatherRuntime.windChanged_self, Channel.settle_same]
  rw [State.settle_eq, same, State.setChannels_self]

/-- Settling one channel of an event that leaves set, weather, supply state and time as they were. -/
theorem State.settle_channel (s old : State) (n : ChannelNo) (store : s.store = old.store)
    (weather : s.weather = old.weather) (supply : s.supply = old.supply) (now : s.now = old.now) :
    (s.settle old).channels.get n
      = (s.channels.get n).settle old.ctx (old.record n) false (old.channels.get n).stack := by
  rw [State.settle_get, State.ctx, State.record, store, weather, supply, now,
    WeatherRuntime.windChanged_self]
  rfl

/-- A channel that panel supervision has heard (R38, R40). -/
theorem State.hear_channel (s : State) (src : Nat) (n : ChannelNo) :
    (s.hear src).channels.get n
      = { s.channels.get n with
          stack := if (s.record n).inUse = true then s.heardStack src (s.channels.get n).stack
            else (s.channels.get n).stack } := by
  rw [State.hear_get, State.heardStack]
  cases used : (s.record n).inUse
  · simp [Channel.place_unused _ _ _ _ used]
  · split
    · rw [Channel.place_used _ _ _ _ used]; rfl
    · rfl

/-! ## A zone's record replaced, and its channels' S cells (R27, R28, R31) -/

theorem State.recomputeSmoke_get (s : State) (z : ZoneNo) (n : ChannelNo) :
    (s.recomputeSmoke z).channels.get n
      = if (s.record n).zones.getLsbD z.1 then
          (s.channels.get n).place (s.record n) .s
            (smokeCell s.store.active s.zone.zones (s.record n))
        else s.channels.get n :=
  State.mapChannels_get s _ n

/-- The event in which a panel frame is heard and a zone's record is replaced. -/
abbrev State.zoneEvent (s : State) (src : Nat) (z : ZoneNo) (r : ZoneRuntime) : State :=
  (((s.hear src).setZoneRuntime z r).recomputeSmoke z).settle s

/-- In that event the channels in use have the F cell supervision leaves them, those of the zone the S cell
of R30, and each is composed once; the others are as they were. -/
theorem State.zoneEvent_channel (s : State) (src : Nat) (z : ZoneNo) (r : ZoneRuntime) (n : ChannelNo) :
    let c := s.channels.get n
    let heard := s.heardStack src c.stack
    if (s.record n).inUse = true then
      (s.zoneEvent src z r).channels.get n
        = ({ c with
            stack :=
              if (s.record n).zones.getLsbD z.1 = true then
                { heard with s := smokeCell s.store.active (s.zone.zones.set z r) (s.record n) }
              else heard }).settle s.ctx (s.record n) false c.stack
    else (s.zoneEvent src z r).channels.get n = c := by
  intro c heard
  have record : ((s.hear src).setZoneRuntime z r).record n = s.record n :=
    State.record_of_store _ _ _ (by simp)
  rw [State.settle_channel _ _ _ (by simp) (by simp) (by simp) (by simp),
    State.recomputeSmoke_get, record, State.setZoneRuntime_channels, State.hear_channel]
  cases used : (s.record n).inUse
  · rw [if_neg (by decide)]
    split <;> simp [Channel.settle_unused _ _ _ _ _ used, Channel.place_unused _ _ _ _ used, c]
  · rw [if_pos rfl]
    split
    · rw [Channel.place_used _ _ _ _ used]
      simp [Stack.set, c, heard]
    · rfl

/-- Beside the channels, the event changes that zone's record and what supervision changes. -/
theorem State.zoneEvent_eq (s : State) (src : Nat) (z : ZoneNo) (r : ZoneRuntime) :
    s.zoneEvent src z r
      = ((s.supervise src).setZone
          { (s.supervise src).zone with zones := s.zone.zones.set z r }).setChannels
            (s.zoneEvent src z r).channels := by
  rw [← s.hear_zones src]
  rfl

/-! ## The statements about zone frames -/

/-- Settles O15: the owner writes the zone and its channels' S cells in one event with panel
supervision. -/
theorem zoneAlarmSetsZone : Obligations.ZoneAlarmSetsZone := by
  intro rx z episode a s ⟨address, notLooped⟩ here inRange s1
  let r : ZoneRuntime := ⟨true, episode, false⟩
  refine ⟨s.zone.zones.set z r, (s.zoneEvent rx.src z r).channels, ?_, by simp [r],
    fun y other => Table.get_set_ne _ _ other, s.zoneEvent_channel rx.src z r⟩
  have allowed : episodeInRange episode = true := by
    simpa [episodeInRange, Option.all_eq_true] using inRange
  have acts : (⟨true, actZoneAlarm z.1 episode⟩ : Owner).run rx.src s
      = Acted.ok [] (s.zoneEvent rx.src z r) := by
    simp [Owner.run, actZoneAlarm, index16, allowed, Acted.ok, r]
  rw [← s.zoneEvent_eq]
  exact congrArg Host.Outcome.next
    (s.receive_of_acts _ _ _ a _ address notLooped here (zoneAlarmFrame_isBroadcast ..) acts)

theorem State.hear_contactHolds (s : State) (src : Nat) (z : ZoneNo) :
    (s.hear src).contactHolds z = s.contactHolds z := by
  unfold State.contactHolds State.effective State.node
  rw [s.hear_store, s.hear_contact]

/-- Settles O16: by the two branches of the owner, as the contact holds the zone or not. -/
theorem zoneResetObeysContact : Obligations.ZoneResetObeysContact := by
  intro rx z a s ⟨address, notLooped⟩ here s1 f
  have received (t : State) (acts : (⟨true, actZoneReset z.1⟩ : Owner).run rx.src s = Acted.ok [] t) :
      exec (.zoneReset rx z.1) s = .next (t.passOn rx.port f a) :=
    congrArg Host.Outcome.next
      (s.receive_of_acts _ _ _ a _ address notLooped here (zoneResetFrame_isBroadcast ..) acts)
  refine ⟨fun ⟨contactZone, active⟩ => ?blocked, fun free => ?reset⟩
  case blocked =>
    have holds : s.contactHolds z = true := by simp [State.contactHolds, contactZone, active]
    refine received _ ?_
    rw [← s.hear_zones rx.src]
    simp only [Owner.run, actZoneReset, index16, z.2, dif_pos, State.hear_contactHolds, holds, if_true]
    rfl
  case reset =>
    have holds : s.contactHolds z = false := by simpa [State.contactHolds] using free
    let r : ZoneRuntime := ⟨false, none, false⟩
    refine ⟨s.zone.zones.set z r, (s.zoneEvent rx.src z r).channels, ?_, by simp [r],
      fun y other => Table.get_set_ne _ _ other, s.zoneEvent_channel rx.src z r⟩
    rw [← s.zoneEvent_eq]
    refine received _ ?_
    simp [Owner.run, actZoneReset, index16, State.hear_contactHolds, holds, Acted.ok, r]

/-! ## Fields out of range (R26, R63) -/

/-- An owner that places cells but does not act on the frame leaves what panel supervision leaves. -/
theorem Owner.run_of_fieldRange {act : State → Acted} (refuses : ∀ t, act t = Acted.fieldRange t)
    (src : Nat) (s : State) :
    (⟨true, act⟩ : Owner).run src s = Acted.fieldRange (s.supervise src) := by
  simp [Owner.run, refuses, Acted.fieldRange, State.supervise]

/-- What a command comes to whose frame is of a broadcast kind and has a field out of range. -/
structure RangeRefused (c : Instr) (p : TrunkPort) (f : Frame) (act : State → Acted) : Prop where
  received : ∀ s, exec c s = .next (s.receive p f (some ⟨true, act⟩))
  refuses : ∀ t, act t = Acted.fieldRange t
  kind : f.isBroadcast = true

theorem actZoneAlarm_refuses (zone : Nat) (episode : Option Positions)
    (out : 16 ≤ zone ∨ ∃ q, episode = some q ∧ (1000 < q.exhaust ∨ 1000 < q.inlet)) (t : State) :
    actZoneAlarm zone episode t = Acted.fieldRange t := by
  unfold actZoneAlarm
  split
  · rfl
  next z known =>
    have small : zone < 16 := by
      by_contra large
      simp [index16, large] at known
    obtain ⟨q, rfl, high⟩ := out.resolve_left (Nat.not_le_of_lt small)
    have bad : episodeInRange (some q) = false := by
      simp only [episodeInRange, Option.all_some, Bool.and_eq_false_iff, decide_eq_false_iff_not]
      omega
    simp [bad]

theorem actZoneReset_refuses (zone : Nat) (out : 16 ≤ zone) (t : State) :
    actZoneReset zone t = Acted.fieldRange t := by
  have none : index16 zone = none := dif_neg (Nat.not_lt_of_le out)
  simp [actZoneReset, none]

theorem actGroupSet_refuses (group position mode : Nat)
    (out : 64 ≤ group ∨ (3 ≤ mode ∧ mode ≠ 255)) (t : State) :
    actGroupSet group position mode t = Acted.fieldRange t := by
  unfold actGroupSet
  split
  next g m inRange listed =>
    obtain high | ⟨high, present⟩ := out
    · simp [groupIndex, Nat.not_lt_of_le high] at inRange
    · have unlisted : modeOf mode = none := by
        unfold modeOf
        split <;> [omega; omega; omega; rfl]
      simp [carriedMode, present, unlisted] at listed
  next => rfl

theorem actGroupRelease_refuses (group : Nat) (out : 64 ≤ group) (t : State) :
    actGroupRelease group t = Acted.fieldRange t := by
  have none : groupIndex group = none := dif_neg (Nat.not_lt_of_le out)
  simp [actGroupRelease, none]

/-- Settles O17: the four owners refuse alike, so the one argument about a refusing owner serves each. -/
theorem fieldRangeIsNotActedOn : Obligations.FieldRangeIsNotActedOn := by
  intro c p f a s frame address notLooped out s1
  have refused : ∃ act, RangeRefused c p f act := by
    obtain ⟨rx, z, e, rfl, out⟩ | ⟨rx, z, rfl, out⟩ | ⟨rx, g, q, m, rfl, out⟩ | ⟨rx, g, rfl, out⟩ := out
      <;> cases frame
    · exact ⟨_, fun _ => rfl, actZoneAlarm_refuses z e out, zoneAlarmFrame_isBroadcast rx z e⟩
    · exact ⟨_, fun _ => rfl, actZoneReset_refuses z out, zoneResetFrame_isBroadcast rx z⟩
    · exact ⟨_, fun _ => rfl, actGroupSet_refuses g q m out, groupSetFrame_isBroadcast rx g q m⟩
    · exact ⟨_, fun _ => rfl, actGroupRelease_refuses g out, groupReleaseFrame_isBroadcast rx g⟩
  obtain ⟨act, received, refuses, kind⟩ := refused
  have ran := Owner.run_of_fieldRange refuses f.src s
  have forwards (elsewhere : f.dst ≠ a) (broadcast : f.dst = 0) :=
    s.receive_broadcast p f ⟨true, act⟩ a address notLooped elsewhere broadcast kind
  refine ⟨fun here => ?addressed, fun elsewhere broadcast quiet => ?one,
    fun elsewhere broadcast e loud => ?two⟩
  case addressed =>
    rw [received, s.receive_addressed p f _ a address notLooped here, State.consume, ran]
    rfl
  case one =>
    rw [received, forwards elsewhere broadcast]
    simp [State.actAndForward, ran, Acted.fieldRange, quiet, s1]
  case two =>
    rw [received, forwards elsewhere broadcast]
    simp only [State.actAndForward, ran, Acted.fieldRange, loud, s1]
    split
    · exact .inr (by simp)
    · exact .inl (by simp)

/-! ## The contact (R32, R34, R35) -/

/-- A contact alarm and its settling: the contact zone's record is replaced, its in-use channels write
their S cells, and CONTACT is raised (R35). -/
abbrev State.contactEvent (s : State) (contact : Contact) : State :=
  ((s.setZone { s.zone with contact }).contactAlarm).settle s

theorem State.contactEvent_eq (s : State) (contact : Contact) :
    s.contactEvent contact
      = ((s.setZone
          { s.zone with
            zones := s.zone.zones.modify s.node.contactZone ZoneRuntime.contactAlarm
            contact }).setChannels (s.contactEvent contact).channels).raise .contact :=
  rfl

theorem State.contactEvent_channel (s : State) (contact : Contact) (n : ChannelNo) :
    if (s.record n).inUse = true ∧ (s.record n).zones.getLsbD s.node.contactZone.1 = true then
      (s.contactEvent contact).channels.get n
        = (s.channels.get n).write s.ctx (s.record n) .s
            (smokeCell s.store.active
              (s.zone.zones.modify s.node.contactZone ZoneRuntime.contactAlarm) (s.record n))
    else (s.contactEvent contact).channels.get n = s.channels.get n := by
  rw [State.settle_channel _ _ _ (by rfl) (by rfl) (by rfl) (by rfl)]
  have placed : (s.setZone { s.zone with contact }).contactAlarm.channels.get n
      = if (s.record n).zones.getLsbD s.node.contactZone.1 then
          (s.channels.get n).place (s.record n) .s
            (smokeCell s.store.active
              (s.zone.zones.modify s.node.contactZone ZoneRuntime.contactAlarm) (s.record n))
        else s.channels.get n :=
    ((s.setZone { s.zone with contact }).setZoneRuntime s.node.contactZone
      (s.zone.zones.get s.node.contactZone).contactAlarm).recomputeSmoke_get s.node.contactZone n
  rw [placed]
  split
  next zone => rw [if_pos zone.2]; rfl
  next other =>
    split
    next inZone =>
      have unused : (s.record n).inUse = false := by simpa [inZone] using other
      rw [Channel.place_unused _ _ _ _ unused, Channel.settle_same]
    next => exact Channel.settle_same _ _ _

/-- The effective contact rises with the accepted level exactly where CONTACT's pin is its source (R34). -/
theorem effectiveContact_rises_iff (source : ContactSource) (accepted : Level) :
    effectiveContact source accepted = .inactive ∧ effectiveContact source (otherLevel accepted) = .active
      ↔ source = .pin ∧ otherLevel accepted = .active := by
  cases source <;> cases accepted <;> decide

theorem State.acceptContact_eq (s : State) :
    s.acceptContact
      = if s.node.contactSource = .pin ∧ otherLevel s.zone.contact.accepted = .active
            ∧ s.repeater = false then
          s.contactEvent ⟨otherLevel s.zone.contact.accepted, none⟩
        else s.setZone { s.zone with contact := ⟨otherLevel s.zone.contact.accepted, none⟩ } := by
  refine if_congr ?_ rfl rfl
  rw [← and_assoc, ← and_assoc, ← effectiveContact_rises_iff]
  rfl

/-- Settles O18: the input's two cases, and the accepted change by whether it makes an alarm. -/
theorem contactIsDeglitched : Obligations.ContactIsDeglitched := by
  refine fun s => ⟨fun level => ?input, fun since pending held => ?accepted⟩
  case input =>
    change Host.Outcome.next _ = _
    unfold Contact.input
    split
    · rfl
    · cases s.zone.contact.pendingSince <;> rfl
  case accepted =>
    intro level contact z
    have due : s.zone.contact.due s.now s.node.contactDeglitchMs = true := by
      simpa [Contact.due, pending] using held
    have ran : exec .pendingChangeAccepted s = .next s.acceptContact := if_pos due
    rw [ran, State.acceptContact_eq]
    refine ⟨fun alarms => ?_, fun quiet => by rw [if_neg quiet]⟩
    rw [if_pos alarms]
    exact ⟨_, _, congrArg Host.Outcome.next (s.contactEvent_eq contact), Table.get_modify_self _ _ _,
      fun y other => Table.get_set_ne _ _ other, s.contactEvent_channel contact⟩

/-! ## Panel supervision (R38 to R41) -/

section Supervision

variable (s : State)

/-- Supervision takes a state, and the F cells are placed; where no other block acts, each is composed. -/
abbrev State.fallbackEvent (v : Supervision) : State :=
  (s.setZone { s.zone with supervision := v }).placeFallback

theorem State.fallbackEvent_channel (v : Supervision) (n : ChannelNo) :
    (s.fallbackEvent v).channels.get n
      = (s.channels.get n).place (s.record n) .f (fallbackCell v.lost (s.record n)) :=
  State.mapChannels_get _ _ n

theorem State.fallbackEvent_settle_channel (v : Supervision) (n : ChannelNo) :
    if (s.record n).inUse = true then
      ((s.fallbackEvent v).settle s).channels.get n
        = (s.channels.get n).write s.ctx (s.record n) .f (fallbackCell v.lost (s.record n))
    else ((s.fallbackEvent v).settle s).channels.get n = s.channels.get n := by
  rw [State.settle_channel _ _ _ (by rfl) (by rfl) (by rfl) (by rfl), State.fallbackEvent_channel]
  split
  · rfl
  next unused =>
    have unused := (Bool.not_eq_true _).mp unused
    rw [Channel.place_unused _ _ _ _ unused, Channel.settle_same]

theorem State.hear_lost (lost : s.zone.supervision.lost = true) :
    s.hear s.node.panelAddress = s.fallbackEvent ⟨false, some s.now⟩ := by
  simp [State.hear, lost]

/-- In OK no channel changes, and nothing is left to settle (R38). -/
theorem State.hear_ok (ok : s.zone.supervision.lost = false) :
    s.hear s.node.panelAddress
      = if 1 ≤ s.store.generation then s.setZone { s.zone with supervision := ⟨false, some s.now⟩ }
        else s := by
  simp [State.hear, ok]

theorem State.supervise_eq_hear (src : Nat)
    (h : src ≠ s.node.panelAddress ∨ s.zone.supervision.lost = false) :
    s.supervise src = s.hear src := by
  refine State.settle_of_channels _ s (Table.ext fun n => ?_) (s.hear_weather src)
  rw [State.hear_get, if_neg]
  rintro ⟨panel, lost⟩
  simp [panel, lost] at h

end Supervision

/-- Settles O19: a panel frame in OK, in LOST, a frame of another source, and the timeout. -/
theorem panelSupervisionPlacesFallback : Obligations.PanelSupervisionPlacesFallback := by
  refine fun s => ⟨fun ok one => ?restart, fun ok zero => ?zero, fun lost => ?restore, s.supervise_other,
    fun src h => (s.supervise_eq_hear src h).symm, fun lost => ?hears, fun since runs held => ?timeout⟩
  case restart => rw [s.supervise_eq_hear _ (.inr ok), s.hear_ok ok, if_pos one]
  case zero => rw [s.supervise_eq_hear _ (.inr ok), s.hear_ok ok, if_neg (by omega)]
  case restore =>
    rw [State.supervise, s.hear_lost lost]
    exact ⟨_, rfl, s.fallbackEvent_settle_channel _⟩
  case hears =>
    rw [s.hear_lost lost]
    refine ⟨(s.fallbackEvent ⟨false, some s.now⟩).channels, rfl, fun n => ?_⟩
    rw [State.fallbackEvent_channel, Channel.place]
    split <;> rfl
  case timeout =>
    have due : s.panelDue = true := by simpa [State.panelDue, runs] using held
    have ran : exec .panelTimeout s = .next ((s.fallbackEvent ⟨true, none⟩).settle s) := if_pos due
    exact ⟨_, ran, s.fallbackEvent_settle_channel _⟩

end Sys2Proof.Machine

/-! SUPPORT. Proofs of the commit's statement (R33, R36, R38, R40, R59, R106, R110, R121, R122, R124, R134,
R169): what a commit leaves in the contact, panel supervision, the weather record, the Branch Master, the
Supply Monitor and the Notice Unit, one unit after the other. -/

namespace Sys2Proof.Machine

/-! ## The pending notice set (R161) -/

/-- A record's place tells its kind and channel, of which the set holds one record. -/
theorem Notice.place_eq_iff (x y : Notice) :
    x.place = y.place ↔ x.kind = y.kind ∧ x.channel = y.channel := by
  have kindOfPlace (x : Notice) : x.place / 16 = x.kind.bit := by
    have small : (x.channel.map (·.1)).getD 0 < 16 := by
      cases x.channel with
      | none => decide
      | some n => exact n.2
    unfold Notice.place
    omega
  have kindOfBit (k : NoticeKind) :
      [NoticeKind.contact, .supply, .fault, .lineMajor, .lost, .bound, .reached, .stranger,
        .lineMinor][k.bit]? = some k := by
    cases k <;> rfl
  have hasChannel (x : Notice) :
      x.channel.isSome = decide (x.kind ∈ [.fault, .lost, .bound, .reached]) := by
    cases x <;> rfl
  refine ⟨fun same => ?_, fun ⟨kind, channel⟩ => by rw [Notice.place, kind, channel, Notice.place]⟩
  have bit : x.kind.bit = y.kind.bit := by rw [← kindOfPlace, same, kindOfPlace]
  have kind : x.kind = y.kind := by
    rw [← Option.some_inj, ← kindOfBit, bit, kindOfBit]
  refine ⟨kind, ?_⟩
  have both : x.channel.isSome = y.channel.isSome := by rw [hasChannel, kind, hasChannel]
  have value : (x.channel.map (·.1)).getD 0 = (y.channel.map (·.1)).getD 0 := by
    unfold Notice.place at same
    rw [kind] at same
    exact Nat.add_left_cancel same
  generalize x.channel = c, y.channel = d at both value
  cases c <;> cases d <;> simp_all [Fin.ext_iff]

/-- The places of a pending notice set ascend strictly (R161). -/
abbrev InPlaceOrder (l : List Notice) : Prop := (l.map Notice.place).Pairwise (· < ·)

/-- A record raised into a set replaces the one of its place, if there is one (R161). -/
theorem mem_raiseInto (x y : Notice) (l : List Notice) (h : InPlaceOrder l) :
    y ∈ raiseInto x l ↔ y = x ∨ (y ∈ l ∧ y.place ≠ x.place) := by
  induction l with
  | nil => simp [raiseInto]
  | cons z rest ih =>
    obtain ⟨first, rest_order⟩ : (∀ w ∈ rest, z.place < w.place) ∧ InPlaceOrder rest := by
      simpa [InPlaceOrder] using h
    unfold raiseInto
    split_ifs with before same
    · have later : ∀ w ∈ z :: rest, w.place ≠ x.place := by
        intro w hw
        obtain rfl | hw := List.mem_cons.mp hw
        · omega
        · have := first w hw; omega
      rw [List.mem_cons]
      exact or_congr_right ⟨fun hy => ⟨hy, later y hy⟩, And.left⟩
    · have later : ∀ w ∈ rest, w.place ≠ x.place := fun w hw => by have := first w hw; omega
      rw [List.mem_cons, List.mem_cons]
      refine or_congr_right ⟨fun hy => ⟨.inr hy, later y hy⟩, fun ⟨hy, other⟩ => ?_⟩
      exact hy.resolve_left fun e => other (e ▸ same.symm)
    · rw [List.mem_cons, ih rest_order, List.mem_cons]
      have other : z.place ≠ x.place := Ne.symm same
      constructor
      · rintro (rfl | raised | ⟨hy, apart⟩)
        · exact .inr ⟨.inl rfl, other⟩
        · exact .inl raised
        · exact .inr ⟨.inr hy, apart⟩
      · rintro (raised | ⟨rfl | hy, apart⟩)
        · exact .inr (.inl raised)
        · exact .inl rfl
        · exact .inr (.inr ⟨hy, apart⟩)

theorem inPlaceOrder_raiseInto (x : Notice) (l : List Notice) (h : InPlaceOrder l) :
    InPlaceOrder (raiseInto x l) := by
  induction l with
  | nil => simp [raiseInto, InPlaceOrder]
  | cons z rest ih =>
    obtain ⟨first, rest_order⟩ : (∀ w ∈ rest, z.place < w.place) ∧ InPlaceOrder rest := by
      simpa [InPlaceOrder] using h
    unfold raiseInto
    split_ifs with before same
    · simp only [InPlaceOrder, List.map_cons, List.pairwise_cons, List.mem_cons, List.mem_map]
      refine ⟨?_, by simpa using first, rest_order⟩
      rintro p (rfl | ⟨w, hw, rfl⟩)
      · exact before
      · exact before.trans (first w hw)
    · simpa [InPlaceOrder, same] using h
    · simp only [InPlaceOrder, List.map_cons, List.pairwise_cons, List.mem_map]
      refine ⟨?_, ih rest_order⟩
      rintro p ⟨w, hw, rfl⟩
      obtain rfl | ⟨hw, -⟩ := (mem_raiseInto x w rest rest_order).mp hw
      · omega
      · exact first w hw

theorem Notice.place_eq_contact_iff (y : Notice) : y.place = Notice.contact.place ↔ y = .contact := by
  rw [Notice.place_eq_iff]
  cases y <;> simp [Notice.kind, Notice.channel]

theorem Notice.place_eq_supply_iff (y : Notice) (v : SupplyState) :
    y.place = (Notice.supply v).place ↔ y.kind = .supply := by
  rw [Notice.place_eq_iff]
  cases y <;> simp [Notice.kind, Notice.channel]

/-! ## What the commit leaves in each block (R142) -/

/-- An excursion of the supply that has qualified for the return to OK (R134 step 3). -/
abbrev Supply.Returns (u : Supply) : Prop := u.state ≠ .ok ∧ u.latched = false ∧ u.inWindow = 10

section Blocks

variable (s : State) (new : ConfigSet)

theorem State.commitSupply_zone : s.commitSupply.zone = s.zone := by
  unfold State.commitSupply; split <;> simp

theorem State.commitSupply_branch : s.commitSupply.branch = s.branch := by
  unfold State.commitSupply; split <;> simp

theorem State.commitSupply_supply :
    s.commitSupply.supply = if s.supply.Returns then s.supply.back else s.supply := by
  unfold State.commitSupply; split <;> simp

theorem State.commitSupply_notice :
    s.commitSupply.notice
      = if s.supply.Returns then s.notice.raise s.node (.supply .ok) else s.notice := by
  unfold State.commitSupply
  split
  · rw [State.changeSupply_notice]; rfl
  · rfl

theorem State.commit_zone : (s.commit new).zone = s.commitZone new := State.commitSupply_zone _

theorem State.commit_branch : (s.commit new).branch = s.commitBranch new :=
  State.commitSupply_branch _

/-- The supply's record under the new limits and modes, before its return (R134 steps 1 and 2). -/
abbrev State.supplyUnder : Supply := s.supply.commit s.node new.node

theorem State.commit_supply :
    (s.commit new).supply
      = if (s.supplyUnder new).Returns then (s.supplyUnder new).back else s.supplyUnder new :=
  State.commitSupply_supply _

theorem State.commit_notice :
    (s.commit new).notice
      = if (s.supplyUnder new).Returns then (s.commitNotice new).raise new.node (.supply .ok)
        else s.commitNotice new :=
  State.commitSupply_notice _

theorem State.commit_effective : (s.commit new).effective = s.effectiveAfter new := by
  rw [State.effective, State.node, s.commit_active, s.commit_zone]
  rfl

/-! ## The contact and panel supervision (R33, R36, R38, R40) -/

theorem State.contactRises_iff :
    s.contactRises new = true ↔ s.effective = .inactive ∧ (s.commit new).effective = .active := by
  simp [State.contactRises, s.commit_effective]

theorem State.contactMoves_iff :
    s.contactMoves new = true
      ↔ s.effective = .active ∧ (s.commit new).effective = .active
        ∧ s.node.contactZone ≠ new.node.contactZone := by
  simp [State.contactMoves, s.commit_effective, and_assoc]

/-- A changed deglitch time that has run out accepts the pending change (R33). -/
theorem Contact.commit_of_due {c : Contact} {now old new since : Nat} (pending : c.pendingSince = some since)
    (changed : old ≠ new) (due : new ≤ now - since) :
    c.commit now old new = ⟨otherLevel c.accepted, none⟩ := by
  simp [Contact.commit, Contact.due, pending, changed, due]

theorem Contact.commit_of_not_due {c : Contact} {now old new : Nat}
    (h : c.pendingSince = none ∨ old = new ∨ ∃ since, c.pendingSince = some since ∧ now - since < new) :
    c.commit now old new = c := by
  refine if_neg fun ⟨changed, due⟩ => ?_
  obtain absent | same | ⟨since, pending, early⟩ := h
  · simp [Contact.due, absent] at due
  · exact changed same
  · have held : new ≤ now - since := by simpa [Contact.due, pending] using due
    omega

/-- A contact alarm in contact_zone, with or without notice (R36). -/
theorem State.commitZone_of_alarm (h : s.contactRises new = true ∨ s.contactMoves new = true) :
    (s.commitZone new).zones
      = s.zone.zones.modify new.node.contactZone ZoneRuntime.contactAlarm :=
  if_pos (by simpa using h)

theorem State.commitZone_of_quiet (h : ¬ (s.contactRises new = true ∨ s.contactMoves new = true)) :
    (s.commitZone new).zones = s.zone.zones :=
  if_neg (by simpa using h)

theorem State.commitZone_other (y : ZoneNo) (h : y ≠ new.node.contactZone) :
    (s.commitZone new).zones.get y = s.zone.zones.get y := by
  by_cases alarm : s.contactRises new = true ∨ s.contactMoves new = true
  · rw [s.commitZone_of_alarm new alarm, Table.get_modify, if_neg h]
  · rw [s.commitZone_of_quiet new alarm]

end Blocks

/-! ## The weather's holds (R47, R55, R59)

A hold is the mark it guards with its timer. Each step of the commit acts on the two holds alike. -/

/-- WET with the rain hold. -/
abbrev WeatherRuntime.rain (w : WeatherRuntime) : Bool × HoldTimer := (w.wet, w.rainHold)

/-- STORM with the storm hold. -/
abbrev WeatherRuntime.gale (w : WeatherRuntime) : Bool × HoldTimer := (w.storm, w.stormHold)

/-- The station is silent at a timeout. -/
def WeatherRuntime.silentAt (now timeout : Nat) (w : WeatherRuntime) : Bool :=
  w.stationTimer.any fun t => decide (timeout ≤ now - t)

theorem WeatherRuntime.silentAt_iff (now timeout : Nat) (w : WeatherRuntime) :
    w.silentAt now timeout = true ↔ ∃ since, w.stationTimer = some since ∧ timeout ≤ now - since := by
  cases h : w.stationTimer <;> simp [WeatherRuntime.silentAt, h]

/-- A hold that has run its duration ends its state (R59 step 1). -/
def expireHold (now duration : Nat) (x : Bool × HoldTimer) : Bool × HoldTimer :=
  if x.2.due now duration then (false, .stopped) else x

/-- A hold freezes. -/
def freezeHold (now : Nat) (x : Bool × HoldTimer) : Bool × HoldTimer := (x.1, x.2.freeze now)

/-- A hold resumes, or ends its state where it was frozen at its duration. -/
def resumeHold (now duration : Nat) (x : Bool × HoldTimer) : Bool × HoldTimer :=
  if x.2.frozenDue duration then (false, .stopped) else (x.1, x.2.resume now)

/-- What the station state and the policy make of a hold: a loss under HOLD_LAST freezes it, a changed policy
of a LOST station freezes or resumes it (R55, R59 step 2). -/
def governHold (now duration : Nat) (silent lost : Bool) (old new : TimeoutPolicy)
    (x : Bool × HoldTimer) : Bool × HoldTimer :=
  match new with
  | .holdLast => if silent = true ∨ (lost = true ∧ old ≠ .holdLast) then freezeHold now x else x
  | .assumeStormRain =>
    if (lost = true ∨ silent = true) ∧ old = .holdLast then resumeHold now duration x else x

/-- What a hold becomes at a commit that finds its record in order, as R59 says of each form of timer. -/
def carryHold (now duration : Nat) (lost : Bool) (policy : TimeoutPolicy) (on : Bool) :
    HoldTimer → Bool × HoldTimer
  | .stopped => (on, .stopped)
  | .running since before =>
    if duration ≤ before + (now - since) then (false, .stopped)
    else if lost = true ∧ policy = .holdLast then (on, .frozen (before + (now - since)))
    else (on, .running since before)
  | .frozen elapsed =>
    if policy = .holdLast then (on, .frozen elapsed)
    else if duration ≤ elapsed then (false, .stopped)
    else (on, .running now elapsed)

section Holds

variable (now duration : Nat) (silent lost : Bool) (old new : TimeoutPolicy)

theorem governHold_stopped (on : Bool) :
    governHold now duration silent lost old new (on, .stopped) = (on, .stopped) := by
  cases new <;> simp [governHold, freezeHold, resumeHold, HoldTimer.freeze, HoldTimer.frozenDue,
    HoldTimer.resume]

theorem governHold_running (on : Bool) (since before : Nat)
    (law : ¬ (lost = true ∧ old = .holdLast)) :
    governHold now duration silent lost old new (on, .running since before)
      = if (lost || silent) = true ∧ new = .holdLast then (on, .frozen (before + (now - since)))
        else (on, .running since before) := by
  cases new with
  | holdLast =>
    simp only [governHold, freezeHold, HoldTimer.freeze]
    refine if_congr ?_ rfl rfl
    have free : lost = true → old ≠ .holdLast := fun h e => law ⟨h, e⟩
    rw [Bool.or_eq_true, and_iff_left_of_imp free, or_comm]
    exact (and_iff_left trivial).symm
  | assumeStormRain =>
    simp [governHold, resumeHold, HoldTimer.frozenDue, HoldTimer.resume]

theorem governHold_frozen (on : Bool) (elapsed : Nat) (isLost : lost = true) (was : old = .holdLast)
    (heard : silent = false) :
    governHold now duration silent lost old new (on, .frozen elapsed)
      = carryHold now duration lost new on (.frozen elapsed) := by
  subst isLost was heard
  cases new <;> simp [governHold, carryHold, resumeHold, HoldTimer.frozenDue, HoldTimer.resume]

/-- Expiry and then station and policy carry a hold in order as R59 says. -/
theorem governHold_expireHold (on : Bool) (h : HoldTimer)
    (law : h.Law on (lost && decide (old = .holdLast))) (heard : silent = true → lost = false) :
    governHold now duration silent lost old new (expireHold now duration (on, h))
      = carryHold now duration (lost || silent) new on h := by
  obtain ⟨-, notRunning, notFrozen⟩ := law
  cases h with
  | stopped => exact governHold_stopped ..
  | running since before =>
    have free : ¬ (lost = true ∧ old = .holdLast) := fun frozen => by
      simpa [HoldTimer.isRunning] using notRunning (by simpa using frozen)
    by_cases due : duration ≤ before + (now - since)
    · simp [expireHold, HoldTimer.due, carryHold, due, governHold_stopped]
    · simp [expireHold, HoldTimer.due, carryHold, due, governHold_running _ _ _ _ _ _ _ _ _ free]
  | frozen elapsed =>
    have frozen : lost = true ∧ old = .holdLast := by
      by_contra free
      simpa [HoldTimer.isFrozen] using notFrozen (by simpa using free)
    have quiet : silent = false := by
      cases silent
      · rfl
      · rw [heard rfl] at frozen; exact absurd frozen.1 (by decide)
    rw [frozen.1, Bool.true_or]
    exact governHold_frozen _ _ _ _ _ _ _ _ rfl frozen.2 quiet

end Holds

/-- R59 step 1 before the station's expiry: each hold that has run its new duration ends its state. -/
def WeatherRuntime.expire (now : Nat) (new : WeatherRecord) (w : WeatherRuntime) : WeatherRuntime :=
  let w1 := if w.rainHold.due now new.rainHoldMs then w.endRain else w
  if w1.stormHold.due now new.stormHoldMs then w1.endStorm else w1

theorem WeatherRuntime.commitDurations_eq (now : Nat) (new : WeatherRecord) (w : WeatherRuntime) :
    w.commitDurations now new
      = if (w.expire now new).silentAt now new.stationTimeoutMs then
          (w.expire now new).lose now new.policy
        else w.expire now new :=
  rfl

/-- The readings, the station state and the station timer. -/
abbrev WeatherRuntime.station (w : WeatherRuntime) : Nat × Option Sector × Bool × Option Nat :=
  (w.speed, w.direction, w.lost, w.stationTimer)

theorem WeatherRuntime.expire_station (now : Nat) (new : WeatherRecord) (w : WeatherRuntime) :
    (w.expire now new).station = w.station := by
  unfold WeatherRuntime.expire
  dsimp only
  split <;> split <;> rfl

theorem WeatherRuntime.lose_station (now : Nat) (policy : TimeoutPolicy) (w : WeatherRuntime) :
    (w.lose now policy).station = (w.speed, w.direction, true, none) := by
  cases policy <;> rfl

theorem WeatherRuntime.resume_station (now : Nat) (new : WeatherRecord) (w : WeatherRuntime) :
    (w.resume now new).station = w.station := by
  unfold WeatherRuntime.resume
  dsimp only
  split <;> split <;> rfl

theorem WeatherRuntime.commitPolicy_station (now : Nat) (old new : WeatherRecord) (w : WeatherRuntime) :
    (w.commitPolicy now old new).station = w.station := by
  unfold WeatherRuntime.commitPolicy
  split
  · split
    · rfl
    · exact w.resume_station now new
  · rfl

theorem WeatherRuntime.expire_silentAt (now timeout : Nat) (new : WeatherRecord) (w : WeatherRuntime) :
    (w.expire now new).silentAt now timeout = w.silentAt now timeout := by
  have timer : (w.expire now new).stationTimer = w.stationTimer :=
    congrArg (·.2.2.2) (w.expire_station now new)
  rw [WeatherRuntime.silentAt, timer, WeatherRuntime.silentAt]

/-- A commit keeps the readings; it loses the station that is silent at the new timeout (R59). -/
theorem WeatherRuntime.commit_station (now : Nat) (old new : WeatherRecord) (w : WeatherRuntime) :
    (w.commit now old new).station
      = if w.silentAt now new.stationTimeoutMs then (w.speed, w.direction, true, none)
        else w.station := by
  have expired := w.expire_station now new
  rw [WeatherRuntime.commit, WeatherRuntime.commitPolicy_station, WeatherRuntime.commitDurations_eq,
    WeatherRuntime.expire_silentAt]
  split
  · simp only [Prod.mk.injEq] at expired
    rw [WeatherRuntime.lose_station, expired.1, expired.2.1]
  · exact expired

/-- How a hold follows the record through each step of a commit. -/
structure FollowsRecord (hold : WeatherRuntime → Bool × HoldTimer) (duration : WeatherRecord → Nat) :
    Prop where
  expires : ∀ now r w, hold (WeatherRuntime.expire now r w) = expireHold now (duration r) (hold w)
  freezes : ∀ now w, hold (WeatherRuntime.freeze now w) = freezeHold now (hold w)
  resumes : ∀ now r w, hold (WeatherRuntime.resume now r w) = resumeHold now (duration r) (hold w)
  loses : ∀ w : WeatherRuntime, hold { w with lost := true, stationTimer := none } = hold w

theorem rain_followsRecord : FollowsRecord WeatherRuntime.rain (·.rainHoldMs) where
  expires now r w := by
    unfold WeatherRuntime.expire expireHold
    dsimp only
    split <;> split <;> rfl
  freezes now w := rfl
  resumes now r w := by
    unfold WeatherRuntime.resume resumeHold
    dsimp only
    split <;> split <;> rfl
  loses w := rfl

theorem gale_followsRecord : FollowsRecord WeatherRuntime.gale (·.stormHoldMs) where
  expires now r w := by
    unfold WeatherRuntime.expire expireHold
    dsimp only
    by_cases rain : w.rainHold.due now r.rainHoldMs = true
    · rw [if_pos rain]
      exact apply_ite WeatherRuntime.gale _ _ _
    · rw [if_neg rain]
      exact apply_ite WeatherRuntime.gale _ _ _
  freezes now w := rfl
  resumes now r w := by
    unfold WeatherRuntime.resume resumeHold
    dsimp only
    by_cases rain : w.rainHold.frozenDue r.rainHoldMs = true
    · rw [if_pos rain]
      exact apply_ite WeatherRuntime.gale _ _ _
    · rw [if_neg rain]
      exact apply_ite WeatherRuntime.gale _ _ _
  loses w := rfl

theorem freezeHold_freezeHold (now : Nat) (x : Bool × HoldTimer) :
    freezeHold now (freezeHold now x) = freezeHold now x := by
  obtain ⟨on, h⟩ := x
  cases h <;> rfl

section Commit

variable {hold : WeatherRuntime → Bool × HoldTimer} {duration : WeatherRecord → Nat}

theorem FollowsRecord.lose (f : FollowsRecord hold duration) (now : Nat) (policy : TimeoutPolicy)
    (w : WeatherRuntime) :
    hold (w.lose now policy) = if policy = .holdLast then freezeHold now (hold w) else hold w := by
  cases policy with
  | holdLast => exact (f.freezes now _).trans (congrArg (freezeHold now) (f.loses w))
  | assumeStormRain => exact f.loses w

theorem FollowsRecord.commitPolicy (f : FollowsRecord hold duration) (now : Nat) (old new : WeatherRecord)
    (w : WeatherRuntime) :
    hold (w.commitPolicy now old new)
      = governHold now (duration new) false w.lost old.policy new.policy (hold w) := by
  have other (p : TimeoutPolicy) : p ≠ .assumeStormRain ↔ p = .holdLast := by cases p <;> decide
  unfold WeatherRuntime.commitPolicy
  rw [apply_ite hold]
  cases new.policy with
  | holdLast => simp [governHold, f.freezes]
  | assumeStormRain => simp [governHold, f.resumes, other]

/-- A station lost at the commit is governed as one lost before, except that HOLD_LAST has frozen its holds
already. -/
theorem governHold_lost (now duration : Nat) (lost : Bool) (old new : TimeoutPolicy)
    (x : Bool × HoldTimer) :
    governHold now duration false true old new (if new = .holdLast then freezeHold now x else x)
      = governHold now duration true lost old new x := by
  cases new with
  | holdLast =>
    simp only [governHold, if_true, true_or]
    exact ite_eq_right_iff.mpr fun _ => freezeHold_freezeHold now x
  | assumeStormRain => simp [governHold]

/-- A hold across the commit: it expires, then station and policy govern it (R59). -/
theorem FollowsRecord.commit (f : FollowsRecord hold duration) (now : Nat) (old new : WeatherRecord)
    (w : WeatherRuntime) :
    hold (w.commit now old new)
      = governHold now (duration new) (w.silentAt now new.stationTimeoutMs) w.lost old.policy new.policy
          (expireHold now (duration new) (hold w)) := by
  have lost : (w.expire now new).lost = w.lost := congrArg (·.2.2.1) (w.expire_station now new)
  rw [WeatherRuntime.commit, WeatherRuntime.commitDurations_eq, f.commitPolicy,
    WeatherRuntime.expire_silentAt, ← f.expires]
  cases w.silentAt now new.stationTimeoutMs
  · rw [if_neg (by decide), lost]
  · have isLost : ((w.expire now new).lose now new.policy).lost = true :=
      congrArg (·.2.2.1) (WeatherRuntime.lose_station now new.policy _)
    rw [if_pos rfl, isLost, f.lose, governHold_lost _ _ w.lost]

/-- Under a record in order a hold follows R59's table. -/
theorem FollowsRecord.commit_eq_carryHold (f : FollowsRecord hold duration) (now : Nat)
    (old new : WeatherRecord) (w : WeatherRuntime)
    (law : (hold w).2.Law (hold w).1 (w.lost && decide (old.policy = .holdLast)))
    (station : w.stationTimer.isNone = w.lost) :
    hold (w.commit now old new)
      = carryHold now (duration new) (w.lost || w.silentAt now new.stationTimeoutMs) new.policy
          (hold w).1 (hold w).2 := by
  rw [f.commit]
  refine governHold_expireHold _ _ _ _ _ _ _ _ law fun silent => ?_
  obtain ⟨since, runs, -⟩ := (w.silentAt_iff _ _).mp silent
  rw [← station, runs]
  rfl

end Commit

/-- The readings and the station after a commit (R59). -/
theorem State.commit_station (s : State) (new : ConfigSet) :
    let silent := s.weather.silentAt s.now new.weather.stationTimeoutMs
    (s.commit new).weather.speed = s.weather.speed
      ∧ (s.commit new).weather.direction = s.weather.direction
      ∧ (s.commit new).weather.lost = (s.weather.lost || silent)
      ∧ (s.commit new).weather.stationTimer = if silent then none else s.weather.stationTimer := by
  intro silent
  have station := s.weather.commit_station s.now s.store.active.weather new.weather
  rw [← s.commit_weather new] at station
  cases quiet : silent
  · simpa [silent, quiet] using station
  · simpa [silent, quiet] using station

/-- The two holds of a record in order after a commit (R59). -/
theorem State.commit_holds (s : State) (new : ConfigSet) (law : s.WeatherLaw) :
    (s.commit new).weather.rain
        = carryHold s.now new.weather.rainHoldMs (s.commit new).weather.lost new.weather.policy
            s.weather.wet s.weather.rainHold
      ∧ (s.commit new).weather.gale
        = carryHold s.now new.weather.stormHoldMs (s.commit new).weather.lost new.weather.policy
            s.weather.storm s.weather.stormHold := by
  obtain ⟨rain, storm, station, -⟩ := law
  obtain ⟨-, -, lost, -⟩ := s.commit_station new
  rw [lost, s.commit_weather]
  exact ⟨rain_followsRecord.commit_eq_carryHold _ _ _ _ rain station,
    gale_followsRecord.commit_eq_carryHold _ _ _ _ storm station⟩

/-! ## The Branch Master (R106, R110, R121, R122, R124) -/

theorem bindingChanged_iff (old new : ChannelRecord) :
    bindingChanged old new = true
      ↔ old.inUse ≠ new.inUse ∨ old.station ≠ new.station ∨ old.serial ≠ new.serial := by
  simp [bindingChanged, or_assoc]

theorem commitExchange_of_changed (old new : ConfigSet) (x : Exchange) (n : ChannelNo)
    (kind : x.kind = .channel n true)
    (changed : bindingChanged (old.channels.get n) (new.channels.get n) = true) :
    commitExchange old new x = ⟨.channel n false, x.poll, x.start⟩ := by
  simp [commitExchange, kind, changed]

/-- An exchange that counts for no channel whose binding fields change is kept as it is (R110). -/
theorem commitExchange_of_kept (old new : ConfigSet) (x : Exchange)
    (kept : ∀ n, x.kind = .channel n true →
      bindingChanged (old.channels.get n) (new.channels.get n) = false) :
    commitExchange old new x = x := by
  obtain ⟨kind, poll, start⟩ := x
  cases kind with
  | channel n counted =>
    cases counted with
    | true => simp [commitExchange, kept n rfl]
    | false => rfl
  | farewell => rfl
  | discovery => rfl

theorem claimed_iff (set : ConfigSet) (station : Nat) :
    claimed set station = true
      ↔ ∃ n, (set.channels.get n).inUse = true ∧ (set.channels.get n).station = station := by
  simp [claimed, channelNos]

theorem accepted_iff (set : ConfigSet) (station : Nat) (x : Serial) :
    accepted set station x = true
      ↔ ∃ n, ((set.channels.get n).inUse = true ∧ (set.channels.get n).station = station)
          ∧ ∀ k, (set.channels.get n).serial = some k → k = x := by
  simp [accepted, acceptable, channelNos, Option.all_eq_true]

/-- The channels that a commit unbinds from BOUND, in channel order (R124, assumption 15). -/
theorem unboundStations_eq (old new : ConfigSet) (channels : Table Channel 16) (noted : List ChannelNo)
    (ascending : noted.Pairwise (· < ·))
    (mem : ∀ n, n ∈ noted ↔ bindingChanged (old.channels.get n) (new.channels.get n) = true
      ∧ (channels.get n).binding.status = .bound) :
    unboundStations old new channels = noted.map fun n => (old.channels.get n).station := by
  refine congrArg (List.map _) ?_
  refine ((List.sortedLT_finRange 16).pairwise.filter _).eq_of_mem_iff ascending fun n => ?_
  simp [mem, and_comm]

theorem appendFarewell_eq (l : List Nat) (st : Nat) :
    appendFarewell l st = if st ∈ l ∨ 16 ≤ l.length then l else l ++ [st] := by
  simp [appendFarewell, Config.farewellCapacity]

/-- Of a list of stations the claimed ones go, and the others stay as often as they stood in it (R122). -/
theorem count_filter_unclaimed (set : ConfigSet) (l : List Nat) (st : Nat) :
    (l.filter fun x => !claimed set x).count st
      = if claimed set st = true then 0 else l.count st := by
  split
  next taken => exact List.count_eq_zero_of_not_mem (by simp [taken])
  next free => exact List.count_filter (by simpa using free)

section Lists

variable (s : State) (new : ConfigSet)

theorem State.commit_exchange (x : Exchange) (inProgress : s.branch.exchange = some x) :
    (s.commit new).branch.exchange = some (commitExchange s.store.active new x) := by
  rw [s.commit_branch, State.commitBranch, inProgress]
  rfl

theorem State.mem_commit_strangers (y : Stranger) :
    y ∈ (s.commit new).branch.strangers
      ↔ y ∈ s.branch.strangers
        ∧ ¬ ∃ n, ((new.channels.get n).inUse = true ∧ (new.channels.get n).station = y.station)
            ∧ ∀ k, (new.channels.get n).serial = some k → k = y.serial := by
  rw [s.commit_branch, ← accepted_iff, State.commitBranch, List.mem_filter, Bool.not_eq_true',
    Bool.not_eq_true]

/-- The stations of the channels that the commit unbinds join the list, then the claimed ones go (R122,
R124). -/
theorem State.commit_farewell (noted : List ChannelNo) (ascending : noted.Pairwise (· < ·))
    (mem : ∀ n, n ∈ noted ↔ bindingChanged (s.record n) (new.channels.get n) = true
      ∧ (s.channels.get n).binding.status = .bound) :
    (s.commit new).branch.farewell
      = ((noted.map fun n => (s.record n).station).foldl
          (fun l st => if st ∈ l ∨ 16 ≤ l.length then l else l ++ [st]) s.branch.farewell).filter
            fun st => !claimed new st := by
  rw [s.commit_branch, State.commitBranch, unboundStations_eq _ _ _ noted ascending mem,
    funext₂ appendFarewell_eq]
  rfl

end Lists

/-! ## The Supply Monitor (R134) -/

/-- The record under new limits and modes: changed limits clear the counts, and the flag ends where both
modes are AUTO. -/
theorem Supply.commit_eq (old new : NodeRecord) (u : Supply) :
    u.commit old new
      = ⟨u.state, u.latched && !decide (new.supplyMinMode = .auto ∧ new.supplyMaxMode = .auto),
          if old.supplyMin ≠ new.supplyMin ∨ old.supplyMax ≠ new.supplyMax then 0 else u.below,
          if old.supplyMin ≠ new.supplyMin ∨ old.supplyMax ≠ new.supplyMax then 0 else u.above,
          if old.supplyMin ≠ new.supplyMin ∨ old.supplyMax ≠ new.supplyMax then 0 else u.inWindow,
          u.last, u.nextSample⟩ := by
  unfold Supply.commit
  dsimp only
  by_cases auto : new.supplyMinMode = .auto ∧ new.supplyMaxMode = .auto
  · rw [if_pos auto]
    split_ifs <;> simp [auto]
  · rw [if_neg auto]
    split_ifs <;> simp [auto]

theorem Supply.commit_of_limits {old new : NodeRecord} (u : Supply)
    (h : old.supplyMin ≠ new.supplyMin ∨ old.supplyMax ≠ new.supplyMax) :
    u.commit old new
      = ⟨u.state, u.latched && !decide (new.supplyMinMode = .auto ∧ new.supplyMaxMode = .auto), 0, 0, 0,
          u.last, u.nextSample⟩ := by
  rw [Supply.commit_eq]
  simp only [if_pos h]

theorem Supply.commit_of_sameLimits {old new : NodeRecord} (u : Supply)
    (h : ¬ (old.supplyMin ≠ new.supplyMin ∨ old.supplyMax ≠ new.supplyMax)) :
    u.commit old new
      = ⟨u.state, u.latched && !decide (new.supplyMinMode = .auto ∧ new.supplyMaxMode = .auto),
          u.below, u.above, u.inWindow, u.last, u.nextSample⟩ := by
  rw [Supply.commit_eq]
  simp only [if_neg h]

theorem Supply.returns_commit_iff (old new : NodeRecord) (u : Supply) :
    (u.commit old new).Returns
      ↔ u.state ≠ .ok
        ∧ (u.latched && !decide (new.supplyMinMode = .auto ∧ new.supplyMaxMode = .auto)) = false
        ∧ ¬ (old.supplyMin ≠ new.supplyMin ∨ old.supplyMax ≠ new.supplyMax) ∧ u.inWindow = 10 := by
  rw [Supply.commit_eq]
  refine and_congr_right' (and_congr_right' ?_)
  by_cases limits : old.supplyMin ≠ new.supplyMin ∨ old.supplyMax ≠ new.supplyMax
  · simp [limits]
  · simp [limits]

/-! ## The Notice Unit (R36, R161, R164, R169) -/

section Notices

variable (s : State) (new : ConfigSet)

theorem State.commit_flags : (s.commit new).notice.flags = s.notice.flags := by
  rw [s.commit_notice, State.commitNotice]
  split <;> split <;> rfl

theorem State.commit_firstError : (s.commit new).notice.firstError = s.notice.firstError := by
  rw [s.commit_notice, State.commitNotice]
  split <;> split <;> rfl

/-- Whatever a commit raises, ATTENTION is asserted anew under the new mask (R169). -/
theorem State.commit_attention_iff :
    (s.commit new).notice.attention = true
      ↔ ∃ y ∈ (s.commit new).notice.notices, new.node.noticeMask.getLsbD y.kind.bit = false := by
  have anew : (s.commit new).notice.attention
      = (s.commit new).notice.notices.any (offerable new.node) := by
    rw [s.commit_notice, State.commitNotice]
    split <;> split <;> rfl
  simp [anew, offerable]

theorem State.mem_commitNotice (law : s.NoticeLaw) (y : Notice) :
    y ∈ (s.commitNotice new).notices
      ↔ (s.contactRises new = true ∧ y = .contact) ∨ y ∈ s.notice.notices := by
  unfold State.commitNotice
  split
  next rises =>
    have raised := mem_raiseInto .contact y s.notice.notices law.2
    rw [Ne, Notice.place_eq_contact_iff] at raised
    refine raised.trans ?_
    rw [or_and_left, rises]
    simp [em]
  next still => simp [still, NoticeUnit.refresh]

theorem State.commitNotice_inPlaceOrder (law : s.NoticeLaw) :
    InPlaceOrder (s.commitNotice new).notices := by
  unfold State.commitNotice
  split
  · exact inPlaceOrder_raiseInto _ _ law.2
  · exact law.2

/-- A commit raises CONTACT where the contact rises and SUPPLY OK, in place of another SUPPLY record, where
the supply returns (R36, R133). -/
theorem State.mem_commit_notices (law : s.NoticeLaw) (y : Notice) :
    y ∈ (s.commit new).notice.notices
      ↔ (s.contactRises new = true ∧ y = .contact)
        ∨ ((s.supplyUnder new).Returns ∧ y = .supply .ok)
        ∨ (y ∈ s.notice.notices ∧ ¬ ((s.supplyUnder new).Returns ∧ y.kind = .supply)) := by
  rw [s.commit_notice]
  split
  next returns =>
    have raised := mem_raiseInto (.supply .ok) y _ (s.commitNotice_inPlaceOrder new law)
    rw [Ne, Notice.place_eq_supply_iff, s.mem_commitNotice new law] at raised
    refine raised.trans ?_
    have contact : y = .contact → y.kind ≠ .supply := by rintro rfl; decide
    tauto
  next stays => rw [s.mem_commitNotice new law]; tauto

end Notices

/-! ## The statement -/

/-- Settles O27, unit by unit. -/
theorem setCommitChangesUnits : Obligations.SetCommitChangesUnits := by
  intro new s t z rises moves changed claimedBy limits latched back
  have rises_iff : s.contactRises new = true ↔ rises := s.contactRises_iff new
  have moves_iff : s.contactMoves new = true ↔ moves := s.contactMoves_iff new
  have changed_iff (n : ChannelNo) :
      bindingChanged (s.record n) (new.channels.get n) = true ↔ changed n := bindingChanged_iff _ _
  have back_iff : (s.supplyUnder new).Returns ↔ back := Supply.returns_commit_iff _ _ _
  have zone : t.zone = s.commitZone new := s.commit_zone new
  have branch : t.branch = s.commitBranch new := s.commit_branch new
  refine ⟨fun since pending changed due => ?contact_due, fun early => ?contact_kept, fun alarm => ?alarm,
    fun quiet => ?quiet, fun y other => ?other, by rw [zone]; rfl, fun law => ?weather,
    by rw [branch]; rfl, by rw [branch]; rfl, by rw [branch]; rfl, by rw [branch]; rfl,
    by rw [branch]; rfl, fun x inProgress => ?exchange, fun closed => ?closed,
    by rw [branch]; exact List.filter_sublist, s.mem_commit_strangers new,
    fun noted ascending mem => ?farewell, fun h => ?back, fun h => ?limits, fun h => ?counts,
    s.commit_flags new, s.commit_firstError new, s.commit_attention_iff new, fun law y => ?notices⟩
  case contact_due => rw [zone]; exact Contact.commit_of_due pending changed due
  case contact_kept => rw [zone]; exact Contact.commit_of_not_due early
  case alarm =>
    rw [← rises_iff, ← moves_iff] at alarm
    rw [zone, s.commitZone_of_alarm new alarm]
    exact Table.get_modify_self _ _ _
  case quiet =>
    rw [← rises_iff, ← moves_iff] at quiet
    rw [zone, s.commitZone_of_quiet new quiet]
  case other => rw [zone, s.commitZone_other new y other]
  case weather =>
    intro w r silent carried
    obtain ⟨speed, direction, lost, timer⟩ := s.commit_station new
    obtain ⟨rain, gale⟩ := s.commit_holds new law
    have silent_iff : w.silentAt s.now r.stationTimeoutMs = true ↔ silent := w.silentAt_iff _ _
    have carried_eq (duration : Nat) (on : Bool) (h : HoldTimer) :
        carryHold s.now duration t.weather.lost r.policy on h = carried duration on h := by
      cases h <;> rfl
    refine ⟨speed, direction, ?_, fun h => ?_, fun h => ?_, rain.trans (carried_eq ..),
      gale.trans (carried_eq ..)⟩
    · rw [lost, Bool.or_eq_true, silent_iff]
    · rw [timer, if_pos (silent_iff.mpr h)]
    · rw [timer, if_neg (mt silent_iff.mp h)]
  case exchange =>
    rw [s.commit_exchange new x inProgress]
    refine ⟨fun n kind h => ?_, fun kept => ?_⟩
    · rw [commitExchange_of_changed _ _ x n kind ((changed_iff n).mpr h)]
    · rw [commitExchange_of_kept _ _ x fun n kind => ?_]
      exact (Bool.not_eq_true _).mp (mt (changed_iff n).mp (kept n kind))
  case closed => rw [branch, State.commitBranch, closed]; rfl
  case farewell =>
    refine ⟨_, rfl, ?_⟩
    rw [s.commit_farewell new noted ascending fun n => by rw [mem, ← changed_iff]]
    refine ⟨List.filter_sublist, fun st => ?_⟩
    rw [count_filter_unclaimed]
    exact if_congr (claimed_iff new st) rfl rfl
  case back =>
    rw [s.commit_supply, if_pos (back_iff.mpr h), State.supplyUnder, Supply.commit_eq]
    rfl
  case limits =>
    rw [s.commit_supply, if_neg (mt back_iff.mp h)]
    exact Supply.commit_of_limits _
  case counts =>
    rw [s.commit_supply, if_neg (mt back_iff.mp h)]
    exact Supply.commit_of_sameLimits _
  case notices =>
    rw [← rises_iff, ← back_iff]
    exact s.mem_commit_notices new law y

end Sys2Proof.Machine

/-! SUPPORT. The weather record in order (R47, R55), hold by hold: what an accepted WEATHER frame, the expiries
and a commit make of each hold, and that they keep the record in order. -/

namespace Sys2Proof.Machine

/-! ## A hold in order (R47, R55) -/

/-- A hold, the mark it guards with its timer, is in order where `held` says that its timer is kept
frozen. -/
abbrev HoldInOrder (held : Bool) (x : Bool × HoldTimer) : Prop := x.2.Law x.1 held

theorem holdInOrder_stopped (held on : Bool) : HoldInOrder held (on, .stopped) :=
  ⟨fun _ => rfl, fun _ => rfl, fun _ => rfl⟩

theorem holdInOrder_running (since before : Nat) : HoldInOrder false (true, .running since before) :=
  ⟨nofun, nofun, fun _ => rfl⟩

theorem holdInOrder_frozen (elapsed : Nat) : HoldInOrder true (true, .frozen elapsed) :=
  ⟨nofun, fun _ => rfl, nofun⟩

/-- A hold in order is stopped, or it guards its mark and runs, or is frozen, as `held` says. -/
theorem HoldInOrder.cases {held : Bool} {x : Bool × HoldTimer} (h : HoldInOrder held x) :
    (∃ on, x = (on, .stopped))
      ∨ (held = false ∧ ∃ since before, x = (true, .running since before))
      ∨ (held = true ∧ ∃ elapsed, x = (true, .frozen elapsed)) := by
  obtain ⟨on, timer⟩ := x
  obtain ⟨unguarded, notRunning, notFrozen⟩ := h
  cases timer with
  | stopped => exact .inl ⟨on, rfl⟩
  | running since before =>
    have guards : on = true := by cases on <;> simp_all [HoldTimer.isStopped]
    have free : held = false := by cases held <;> simp_all [HoldTimer.isRunning]
    exact .inr (.inl ⟨free, since, before, by rw [guards]⟩)
  | frozen elapsed =>
    have guards : on = true := by cases on <;> simp_all [HoldTimer.isStopped]
    have isHeld : held = true := by cases held <;> simp_all [HoldTimer.isFrozen]
    exact .inr (.inr ⟨isHeld, elapsed, by rw [guards]⟩)

/-- A loss of the station under HOLD_LAST freezes a hold (R55). -/
theorem HoldInOrder.freeze {x : Bool × HoldTimer} (h : HoldInOrder false x) (now : Nat) :
    HoldInOrder true (freezeHold now x) := by
  obtain ⟨on, rfl⟩ | ⟨-, since, before, rfl⟩ | ⟨frozen, -⟩ := h.cases
  · exact holdInOrder_stopped _ _
  · exact holdInOrder_frozen _
  · cases frozen

/-- A station heard again leaves no hold frozen (R49). -/
theorem HoldInOrder.resume {held : Bool} {x : Bool × HoldTimer} (h : HoldInOrder held x)
    (now duration : Nat) : HoldInOrder false (resumeHold now duration x) := by
  obtain ⟨on, rfl⟩ | ⟨-, since, before, rfl⟩ | ⟨-, elapsed, rfl⟩ := h.cases
  · exact holdInOrder_stopped _ _
  · exact holdInOrder_running _ _
  · unfold resumeHold
    split <;> [exact holdInOrder_stopped _ _; exact holdInOrder_running _ _]

/-- A commit carries a hold in order to one in order under the station and policy it leaves (R59). -/
theorem HoldInOrder.carry {x : Bool × HoldTimer} {was lost : Bool} (h : HoldInOrder was x)
    (stays : was = true → lost = true) (now duration : Nat) (policy : TimeoutPolicy) :
    HoldInOrder (lost && decide (policy = .holdLast)) (carryHold now duration lost policy x.1 x.2) := by
  obtain ⟨on, rfl⟩ | ⟨-, since, before, rfl⟩ | ⟨held, elapsed, rfl⟩ := h.cases
  · exact holdInOrder_stopped _ _
  · dsimp only [carryHold]
    by_cases frozen : lost = true ∧ policy = .holdLast
    · rw [if_pos frozen, frozen.1, frozen.2]
      split <;> [exact holdInOrder_stopped _ _; exact holdInOrder_frozen _]
    · have free : (lost && decide (policy = .holdLast)) = false := by simpa using frozen
      rw [if_neg frozen, free]
      split <;> [exact holdInOrder_stopped _ _; exact holdInOrder_running _ _]
  · dsimp only [carryHold]
    rw [stays held]
    cases policy with
    | holdLast => exact holdInOrder_frozen elapsed
    | assumeStormRain =>
      rw [if_neg (by decide)]
      split <;> [exact holdInOrder_stopped _ _; exact holdInOrder_running now elapsed]

/-! ## An accepted WEATHER frame on a hold (R49 to R51) -/

/-- What hearing the station makes of a hold: one that froze with a LOST station resumes (R49 step 1). -/
def hearHold (now duration : Nat) (lost : Bool) (x : Bool × HoldTimer) : Bool × HoldTimer :=
  if lost then resumeHold now duration x else x

/-- What the rain flag makes of the rain hold (R50). -/
def takeRain (now : Nat) (rain : Bool) (x : Bool × HoldTimer) : Bool × HoldTimer :=
  if rain then (true, .stopped) else if x.1 then (true, x.2.start now) else x

/-- What the speed makes of the storm hold (R51). -/
def takeSpeed (now : Nat) (r : WeatherRecord) (speed : Nat) (x : Bool × HoldTimer) : Bool × HoldTimer :=
  if x.1 then (true, if r.stormOff ≤ speed then .stopped else x.2.start now)
  else if r.stormOn ≤ speed then (true, .stopped)
  else x

section Frame

variable (now : Nat) (r : WeatherRecord) (speed direction rain : Nat) (w : WeatherRuntime)

theorem FollowsRecord.reading {hold : WeatherRuntime → Bool × HoldTimer}
    {duration : WeatherRecord → Nat} (f : FollowsRecord hold duration)
    (station : ∀ (w : WeatherRuntime) lost timer speed direction,
      hold { w with lost := lost, stationTimer := timer, speed := speed, direction := direction } = hold w) :
    hold (w.reading now r speed direction) = hearHold now (duration r) w.lost (hold w) := by
  unfold WeatherRuntime.reading hearHold
  dsimp only
  cases w.lost
  · exact station w _ _ _ _
  · exact (station (w.resume now r) _ _ _ _).trans (f.resumes now r w)

/-- A reading sets the station and its readings, whatever it makes of the holds (R49 steps 2 to 4). -/
theorem WeatherRuntime.reading_station :
    (w.reading now r speed direction).station = (min speed 600, index16 direction, false, some now) := by
  unfold WeatherRuntime.reading
  dsimp only
  cases lost : w.lost
  · simp [lost]
  · rfl

theorem WeatherRuntime.applyRain_station (rain : Bool) : (w.applyRain now rain).station = w.station := by
  unfold WeatherRuntime.applyRain
  split <;> [rfl; (split <;> rfl)]

theorem WeatherRuntime.applyRain_rain (rain : Bool) :
    (w.applyRain now rain).rain = takeRain now rain w.rain := by
  unfold WeatherRuntime.applyRain takeRain
  split
  · rfl
  · split
    next wet => exact Prod.ext wet rfl
    next => rfl

theorem WeatherRuntime.applyRain_gale (rain : Bool) : (w.applyRain now rain).gale = w.gale := by
  unfold WeatherRuntime.applyRain
  split <;> [rfl; (split <;> rfl)]

theorem WeatherRuntime.applyStorm_station : (w.applyStorm now r).station = w.station := by
  unfold WeatherRuntime.applyStorm
  split <;> (split <;> rfl)

theorem WeatherRuntime.applyStorm_rain : (w.applyStorm now r).rain = w.rain := by
  unfold WeatherRuntime.applyStorm
  split <;> (split <;> rfl)

theorem WeatherRuntime.applyStorm_gale : (w.applyStorm now r).gale = takeSpeed now r w.speed w.gale := by
  unfold WeatherRuntime.applyStorm takeSpeed
  split
  next storm => split <;> exact Prod.ext storm rfl
  next => split <;> rfl

/-- The station and the readings after an accepted frame (R49). -/
theorem WeatherRuntime.frame_station :
    (w.frame now r speed direction rain).station
      = (min speed 600, index16 direction, false, some now) := by
  rw [WeatherRuntime.frame, WeatherRuntime.applyStorm_station, WeatherRuntime.applyRain_station,
    WeatherRuntime.reading_station]

theorem WeatherRuntime.frame_rain :
    (w.frame now r speed direction rain).rain
      = takeRain now (decide (rain ≠ 0)) (hearHold now r.rainHoldMs w.lost w.rain) := by
  rw [WeatherRuntime.frame, WeatherRuntime.applyStorm_rain, WeatherRuntime.applyRain_rain,
    rain_followsRecord.reading now r speed direction w fun _ _ _ _ _ => rfl]

theorem WeatherRuntime.frame_gale :
    (w.frame now r speed direction rain).gale
      = takeSpeed now r (min speed 600) (hearHold now r.stormHoldMs w.lost w.gale) := by
  have applied (v : WeatherRuntime) (b : Bool) : (v.applyRain now b).speed = v.speed :=
    congrArg (·.1) (v.applyRain_station now b)
  have read : (w.reading now r speed direction).speed = min speed 600 :=
    congrArg (·.1) (w.reading_station now r speed direction)
  rw [WeatherRuntime.frame, WeatherRuntime.applyStorm_gale, WeatherRuntime.applyRain_gale, applied, read,
    gale_followsRecord.reading now r speed direction w fun _ _ _ _ _ => rfl]

end Frame

theorem HoldInOrder.hear {x : Bool × HoldTimer} {lost held : Bool} (h : HoldInOrder (lost && held) x)
    (now duration : Nat) : HoldInOrder false (hearHold now duration lost x) := by
  cases lost
  · exact h
  · exact h.resume now duration

theorem HoldInOrder.start {on : Bool} {timer : HoldTimer} (h : HoldInOrder false (on, timer))
    (now : Nat) : HoldInOrder false (true, timer.start now) := by
  obtain ⟨_, same⟩ | ⟨-, since, before, same⟩ | ⟨frozen, -⟩ := h.cases
  · obtain ⟨-, rfl⟩ := Prod.mk.inj same
    exact holdInOrder_running _ _
  · obtain ⟨-, rfl⟩ := Prod.mk.inj same
    exact holdInOrder_running _ _
  · cases frozen

theorem HoldInOrder.rain {x : Bool × HoldTimer} (h : HoldInOrder false x) (now : Nat) (rain : Bool) :
    HoldInOrder false (takeRain now rain x) := by
  unfold takeRain
  split_ifs <;> [exact holdInOrder_stopped _ _; exact h.start now; exact h]

theorem HoldInOrder.gale {x : Bool × HoldTimer} (h : HoldInOrder false x) (now : Nat)
    (r : WeatherRecord) (speed : Nat) : HoldInOrder false (takeSpeed now r speed x) := by
  unfold takeSpeed
  split_ifs <;> [exact holdInOrder_stopped _ _; exact h.start now; exact holdInOrder_stopped _ _; exact h]

/-! ## The record in order -/

/-- The weather record is in order under a timeout policy (R47, R55). -/
structure WeatherRuntime.InOrder (policy : TimeoutPolicy) (w : WeatherRuntime) : Prop where
  rain : HoldInOrder (w.lost && decide (policy = .holdLast)) w.rain
  gale : HoldInOrder (w.lost && decide (policy = .holdLast)) w.gale
  timer : w.stationTimer.isNone = w.lost
  speed : w.speed ≤ 600

theorem State.weatherLaw_iff (s : State) :
    s.WeatherLaw ↔ s.weather.InOrder s.store.active.weather.policy :=
  ⟨fun ⟨rain, gale, timer, speed⟩ => ⟨rain, gale, timer, speed⟩,
    fun h => ⟨h.rain, h.gale, h.timer, h.speed⟩⟩

/-- Where the station is OK the policy does not matter. -/
theorem WeatherRuntime.InOrder.of_station {w : WeatherRuntime} {speed : Nat} {direction : Option Sector}
    {since : Nat} (policy : TimeoutPolicy) (station : w.station = (speed, direction, false, some since))
    (small : speed ≤ 600) (rain : HoldInOrder false w.rain) (gale : HoldInOrder false w.gale) :
    w.InOrder policy := by
  simp only [Prod.mk.injEq] at station
  obtain ⟨speedEq, -, lost, timer⟩ := station
  exact ⟨by rwa [lost], by rwa [lost], by rw [timer, lost]; rfl, speedEq ▸ small⟩

theorem WeatherRuntime.InOrder.frame {w : WeatherRuntime} {policy : TimeoutPolicy} (h : w.InOrder policy)
    (now : Nat) (r : WeatherRecord) (speed direction rain : Nat) :
    (w.frame now r speed direction rain).InOrder policy := by
  refine .of_station policy (w.frame_station now r speed direction rain) (min_le_right _ _) ?_ ?_
  · rw [WeatherRuntime.frame_rain]
    exact (h.rain.hear now _).rain now _
  · rw [WeatherRuntime.frame_gale]
    exact (h.gale.hear now _).gale now r _

theorem WeatherRuntime.InOrder.endRain {w : WeatherRuntime} {policy : TimeoutPolicy}
    (h : w.InOrder policy) : w.endRain.InOrder policy :=
  ⟨holdInOrder_stopped _ _, h.gale, h.timer, h.speed⟩

theorem WeatherRuntime.InOrder.endStorm {w : WeatherRuntime} {policy : TimeoutPolicy}
    (h : w.InOrder policy) : w.endStorm.InOrder policy :=
  ⟨h.rain, holdInOrder_stopped _ _, h.timer, h.speed⟩

/-- A station whose timer runs is OK, so no hold was frozen before its loss (R47, R53, R55). -/
theorem WeatherRuntime.InOrder.lose {w : WeatherRuntime} {policy : TimeoutPolicy} (h : w.InOrder policy)
    (now : Nat) (runs : w.stationTimer.isNone = false) : (w.lose now policy).InOrder policy := by
  have ok : w.lost = false := h.timer.symm.trans runs
  have rain : HoldInOrder false w.rain := by simpa [ok] using h.rain
  have gale : HoldInOrder false w.gale := by simpa [ok] using h.gale
  cases policy with
  | holdLast => exact ⟨rain.freeze now, gale.freeze now, rfl, h.speed⟩
  | assumeStormRain => exact ⟨rain, gale, rfl, h.speed⟩

theorem State.commit_weatherLaw (s : State) (new : ConfigSet) (law : s.WeatherLaw) :
    (s.commit new).WeatherLaw := by
  obtain ⟨rain, gale⟩ := s.commit_holds new law
  obtain ⟨speed, -, lost, timer⟩ := s.commit_station new
  have before := s.weatherLaw_iff.mp law
  have stays : (s.weather.lost && decide (s.store.active.weather.policy = .holdLast)) = true →
      (s.commit new).weather.lost = true := fun held => by
    rw [lost, (Bool.and_eq_true_iff.mp held).1, Bool.true_or]
  refine (State.weatherLaw_iff _).mpr ?_
  rw [s.commit_active]
  refine ⟨?_, ?_, ?_, speed ▸ before.speed⟩
  · rw [rain]; exact before.rain.carry stays ..
  · rw [gale]; exact before.gale.carry stays ..
  · rw [timer, lost]
    cases s.weather.silentAt s.now new.weather.stationTimeoutMs
    · simpa using before.timer
    · simp

end Sys2Proof.Machine

/-! SUPPORT. The record laws of supply, panel supervision, contact and branch (R131, R38, R40, R36, R117,
R119, R122), and the step lemma for them and the weather record: no law reads the channels or the notices,
so each operation has to be looked at only where it writes the record of a law. -/

namespace Sys2Proof.Machine

/-! ## The Supply Monitor's record (R129 to R134) -/

/-- The Supply Monitor's record is in order (R129 to R131). -/
structure Supply.InOrder (u : Supply) : Prop where
  latched : u.latched = true → u.state ≠ .ok
  ok : u.state = .ok → u.inWindow = 0
  below : u.below ≤ 2
  above : u.above ≤ 2
  inWindow : u.inWindow ≤ 10
  unlatched : u.latched = false → u.inWindow ≤ 9
  last : ∀ v ∈ u.last, v ≤ 400

theorem State.supplyLaw_iff (s : State) : s.SupplyLaw ↔ s.supply.InOrder :=
  ⟨fun ⟨latched, ok, below, above, inWindow, unlatched, last⟩ =>
      ⟨latched, ok, below, above, inWindow, unlatched, last⟩,
    fun h => ⟨h.latched, h.ok, h.below, h.above, h.inWindow, h.unlatched, h.last⟩⟩

/-- With the counts at 0 only the flag and the last sample remain to be in order. -/
theorem Supply.inOrder_of_zero {u : Supply} (below : u.below = 0) (above : u.above = 0)
    (inWindow : u.inWindow = 0) (latched : u.latched = true → u.state ≠ .ok)
    (last : ∀ v ∈ u.last, v ≤ 400) : u.InOrder where
  latched := latched
  ok _ := inWindow
  below := by omega
  above := by omega
  inWindow := by omega
  unlatched _ := by omega
  last := last

namespace Supply.InOrder

variable {u : Supply} (h : u.InOrder)
include h

theorem back : u.back.InOrder := inOrder_of_zero rfl rfl rfl nofun h.last

theorem noCounts : u.noCounts.InOrder := inOrder_of_zero rfl rfl rfl h.latched h.last

theorem enterLow (node : NodeRecord) : (u.enterLow node).InOrder :=
  inOrder_of_zero rfl rfl rfl (fun _ => nofun) h.last

theorem enterHigh (node : NodeRecord) : (u.enterHigh node).InOrder :=
  inOrder_of_zero rfl rfl rfl (fun _ => nofun) h.last

theorem oneBelow (node : NodeRecord) : (u.oneBelow node).InOrder := by
  unfold Supply.oneBelow
  split
  · exact h.enterLow node
  next few =>
    exact { h with
      ok := fun _ => rfl
      below := Nat.le_of_lt_succ (Nat.not_le.mp few)
      above := Nat.zero_le 2
      inWindow := Nat.zero_le 10
      unlatched := fun _ => Nat.zero_le 9 }

theorem oneAbove (node : NodeRecord) : (u.oneAbove node).InOrder := by
  unfold Supply.oneAbove
  split
  · exact h.enterHigh node
  next few =>
    exact { h with
      ok := fun _ => rfl
      below := Nat.zero_le 2
      above := Nat.le_of_lt_succ (Nat.not_le.mp few)
      inWindow := Nat.zero_le 10
      unlatched := fun _ => Nat.zero_le 9 }

/-- Ten samples in the window qualify, unless the excursion is latched (R130, R131). -/
theorem oneInside (out : u.state ≠ .ok) : u.oneInside.InOrder := by
  unfold Supply.oneInside
  split
  · exact h.back
  next stays =>
    exact { h with
      ok := fun ok => absurd ok out
      below := Nat.zero_le 2
      above := Nat.zero_le 2
      inWindow := min_le_left _ _
      unlatched := fun (free : u.latched = false) => by
        have few : ¬ 10 ≤ u.inWindow + 1 := fun many => stays ⟨many, free⟩
        change min 10 (u.inWindow + 1) ≤ 9
        omega }

theorem count (node : NodeRecord) (x : Verdict) : (u.count node x).InOrder := by
  unfold Supply.count
  split
  · exact h.oneBelow node
  · exact h.oneAbove node
  · exact h.noCounts
  · exact h.noCounts
  · exact h.oneAbove node
  next low => exact h.oneInside (by rw [low]; decide)
  · exact h.oneBelow node
  · exact h.noCounts
  next high => exact h.oneInside (by rw [high]; decide)

theorem sample (node : NodeRecord) (reading : Nat) : (u.sample node reading).InOrder := by
  have taken (next : Option Nat) :
      InOrder { u with last := some (min reading 400), nextSample := next } := by
    refine { h with last := ?_ }
    rintro v ⟨⟩
    exact min_le_right reading 400
  exact (taken _).count node _

/-- Under new limits and modes an excursion that has qualified returns, so that none unlatched has counted
ten (R134). -/
theorem commit (old new : NodeRecord) :
    (if (u.commit old new).Returns then (u.commit old new).back else u.commit old new).InOrder := by
  have last : ∀ v ∈ (u.commit old new).last, v ≤ 400 := by rw [Supply.commit_eq]; exact h.last
  have latched : (u.commit old new).latched = true → (u.commit old new).state ≠ .ok := by
    rw [Supply.commit_eq]
    exact fun both => h.latched (Bool.and_eq_true_iff.mp both).1
  split
  · exact inOrder_of_zero rfl rfl rfl nofun last
  next stays =>
    by_cases limits : old.supplyMin ≠ new.supplyMin ∨ old.supplyMax ≠ new.supplyMax
    · refine inOrder_of_zero ?_ ?_ ?_ latched last <;> rw [Supply.commit_of_limits u limits]
    · rw [Supply.commit_of_sameLimits u limits] at stays latched last ⊢
      refine ⟨latched, h.ok, h.below, h.above, h.inWindow, fun free => ?_, last⟩
      have notTen : u.state ≠ .ok → u.inWindow ≠ 10 := fun out ten => stays ⟨out, free, ten⟩
      have most := h.inWindow
      by_cases ok : u.state = .ok
      · exact (h.ok ok).trans_le (Nat.zero_le 9)
      · have := notTen ok
        change u.inWindow ≤ 9
        omega

end Supply.InOrder

/-! ## The Branch Master's lists and pointer (R117, R119 to R122) -/

/-- The Stranger List has at most 8 entries, of distinct stations (R119). -/
structure StrangersInOrder (l : List Stranger) : Prop where
  length : l.length ≤ 8
  distinct : (l.map (·.station)).Nodup

theorem StrangersInOrder.sublist {l k : List Stranger} (h : StrangersInOrder l) (sub : k.Sublist l) :
    StrangersInOrder k :=
  ⟨sub.length_le.trans h.length, h.distinct.sublist (sub.map _)⟩

/-- A station without an entry joins a list with room (R120). -/
theorem StrangersInOrder.append {l : List Stranger} {x : Stranger} (h : StrangersInOrder l)
    (room : l.length < 8) (other : ∀ y ∈ l, y.station ≠ x.station) : StrangersInOrder (l ++ [x]) where
  length := by simpa using room
  distinct := by
    rw [List.map_append]
    refine h.distinct.append (List.nodup_singleton _) fun station old new => ?_
    obtain ⟨y, present, rfl⟩ := List.mem_map.mp old
    exact other y present (by simpa using new)

/-- A station's entry gives way to a new one of the same station (R120). -/
theorem StrangersInOrder.replace {l : List Stranger} {x y : Stranger} (h : StrangersInOrder l)
    (present : y ∈ l) (same : y.station = x.station) :
    StrangersInOrder ((l.filter fun z => decide (z.station ≠ x.station)) ++ [x]) := by
  refine (h.sublist List.filter_sublist).append ?_ fun z kept => by simpa using (List.mem_filter.mp kept).2
  have shorter : (l.filter fun z => decide (z.station ≠ x.station)).length < l.length :=
    List.length_filter_lt_length_iff_exists.mpr ⟨y, present, by simpa using same⟩
  exact shorter.trans_le h.length

/-- The farewell list has at most 16 stations, each once (R122). -/
structure FarewellInOrder (l : List Nat) : Prop where
  length : l.length ≤ 16
  distinct : l.Nodup

theorem FarewellInOrder.sublist {l k : List Nat} (h : FarewellInOrder l) (sub : k.Sublist l) :
    FarewellInOrder k :=
  ⟨sub.length_le.trans h.length, h.distinct.sublist sub⟩

theorem FarewellInOrder.append {l : List Nat} (h : FarewellInOrder l) (station : Nat) :
    FarewellInOrder (appendFarewell l station) := by
  rw [appendFarewell_eq]
  split
  · exact h
  next joins =>
    obtain ⟨new, room⟩ := not_or.mp joins
    exact ⟨by simpa using room, h.distinct.append (List.nodup_singleton _) (by simpa using new)⟩

theorem FarewellInOrder.foldl {l : List Nat} (h : FarewellInOrder l) (stations : List Nat) :
    FarewellInOrder (stations.foldl appendFarewell l) := by
  induction stations generalizing l with
  | nil => exact h
  | cons station rest ih => exact ih (h.append station)

/-- A station of the branch line (R117). -/
abbrev IsStation (station : Nat) : Prop := 1 ≤ station ∧ station ≤ 31

theorem isStation_one : IsStation 1 := by decide

theorem isStation_stationAfter {station : Nat} (h : IsStation station) :
    IsStation (stationAfter station) := by
  unfold stationAfter
  split <;> omega

theorem isStation_firstUnclaimed (set : ConfigSet) (steps : Nat) {station : Nat} (h : IsStation station) :
    IsStation (firstUnclaimed set steps station) := by
  induction steps generalizing station with
  | zero => exact h
  | succ k ih =>
    unfold firstUnclaimed
    split <;> [exact ih (isStation_stationAfter h); exact h]

/-- The Branch Master's lists and pointer are in order under a set. -/
structure Branch.InOrder (set : ConfigSet) (b : Branch) : Prop where
  strangers : StrangersInOrder b.strangers
  farewell : FarewellInOrder b.farewell
  unclaimed : ∀ x ∈ b.farewell, claimed set x = false
  pointer : IsStation b.pointer

theorem State.branchLaw_iff (s : State) : s.BranchLaw ↔ s.branch.InOrder s.store.active :=
  ⟨fun ⟨few, distinct, short, once, unclaimed, pointer⟩ =>
      ⟨⟨few, distinct⟩, ⟨short, once⟩, unclaimed, pointer⟩,
    fun h => ⟨h.strangers.length, h.strangers.distinct, h.farewell.length, h.farewell.distinct,
      h.unclaimed, h.pointer⟩⟩

/-- An exchange opened with its poll changes neither list nor pointer. -/
theorem Branch.InOrder.open' {set : ConfigSet} {b : Branch} (h : b.InOrder set) (kind : ExchangeKind)
    (poll : Poll) (start : Nat) : (b.open' kind poll start).InOrder set :=
  { h with }

/-- A slot takes a station from the farewell list or moves the pointer on, if it changes either (R116,
R117). -/
theorem Branch.InOrder.serve {s : State} (h : s.branch.InOrder s.store.active) (slot : Slot)
    (start : Nat) : (s.serve slot start).InOrder s.store.active := by
  unfold State.serve
  split
  · exact { h with }
  · split <;> [exact h.open' _ _ _; exact { h with }]
  · split
    next st rest owed =>
      have rest_sub : rest.Sublist s.branch.farewell := owed ▸ List.sublist_cons_self st rest
      exact { h with
        farewell := h.farewell.sublist rest_sub
        unclaimed := fun x present => h.unclaimed x (rest_sub.mem present) }
    next =>
      exact { h with
        pointer := isStation_firstUnclaimed _ _
          (isStation_stationAfter (isStation_firstUnclaimed _ _ h.pointer)) }

/-! ## The five laws together -/

/-- Each of the five laws goes over from the one state to the other. -/
structure State.KeepsRecordLaws (s t : State) : Prop where
  weather : s.WeatherLaw → t.WeatherLaw
  supply : s.SupplyLaw → t.SupplyLaw
  supervision : s.SupervisionLaw → t.SupervisionLaw
  contact : s.ContactLaw → t.ContactLaw
  branch : s.BranchLaw → t.BranchLaw

theorem State.KeepsRecordLaws.refl (s : State) : s.KeepsRecordLaws s := ⟨id, id, id, id, id⟩

theorem State.KeepsRecordLaws.trans {s t u : State} (h : s.KeepsRecordLaws t)
    (k : t.KeepsRecordLaws u) : s.KeepsRecordLaws u :=
  ⟨k.weather ∘ h.weather, k.supply ∘ h.supply, k.supervision ∘ h.supervision, k.contact ∘ h.contact,
    k.branch ∘ h.branch⟩

/-- What the laws read is as it was. -/
structure State.SameRecords (s t : State) : Prop where
  address : t.trunk.address = s.trunk.address
  active : t.store.active = s.store.active
  generation : t.store.generation = s.store.generation
  zone : t.zone = s.zone
  weather : t.weather = s.weather
  branch : t.branch = s.branch
  supply : t.supply = s.supply

theorem State.SameRecords.keeps {s t : State} (same : s.SameRecords t) : s.KeepsRecordLaws t where
  weather := by simp only [State.weatherLaw_iff, same.weather, same.active, imp_self]
  supply := by simp only [State.supplyLaw_iff, same.supply, imp_self]
  supervision := by simp only [State.SupervisionLaw, same.zone, same.generation, imp_self]
  contact := by
    simp only [State.ContactLaw, State.repeater, State.effective, State.node, same.address,
      same.active, same.zone, imp_self]
  branch := by simp only [State.branchLaw_iff, same.branch, same.active, imp_self]

/-! ## Changes of one block -/

section Blocks

variable (s : State)

theorem State.keepsRecords_setChannels (t : Table Channel 16) : s.KeepsRecordLaws (s.setChannels t) :=
  ⟨id, id, id, id, id⟩

theorem State.keepsRecords_mapChannels (f : ChannelNo → ChannelRecord → Channel → Channel) :
    s.KeepsRecordLaws (s.mapChannels f) :=
  s.keepsRecords_setChannels _

theorem State.keepsRecords_mapChannel (n : ChannelNo) (f : ChannelRecord → Channel → Channel) :
    s.KeepsRecordLaws (s.mapChannel n f) :=
  s.keepsRecords_setChannels _

theorem State.keepsRecords_settle (old : State) : s.KeepsRecordLaws (s.settle old) :=
  s.keepsRecords_setChannels _

theorem State.keepsRecords_raise (x : Notice) : s.KeepsRecordLaws (s.raise x) := ⟨id, id, id, id, id⟩

theorem State.keepsRecords_setWeather {w : WeatherRuntime}
    (h : s.weather.InOrder s.store.active.weather.policy → w.InOrder s.store.active.weather.policy) :
    s.KeepsRecordLaws (s.setWeather w) :=
  ⟨fun law => (State.weatherLaw_iff _).mpr (h (s.weatherLaw_iff.mp law)), id, id, id, id⟩

/-- A new weather record, with the W cells it asks for. -/
theorem State.keepsRecords_changeWeather {w : WeatherRuntime}
    (h : s.weather.InOrder s.store.active.weather.policy → w.InOrder s.store.active.weather.policy) :
    s.KeepsRecordLaws (s.changeWeather w) :=
  (s.keepsRecords_setWeather h).trans (State.keepsRecords_mapChannels _ _)

theorem State.keepsRecords_setSupply {u : Supply} (h : s.supply.InOrder → u.InOrder) :
    s.KeepsRecordLaws (s.setSupply u) :=
  ⟨id, fun law => (State.supplyLaw_iff _).mpr (h (s.supplyLaw_iff.mp law)), id, id, id⟩

theorem State.keepsRecords_changeSupply {u : Supply} (h : s.supply.InOrder → u.InOrder) :
    s.KeepsRecordLaws (s.changeSupply u) := by
  have same : (s.setSupply u).SameRecords (s.changeSupply u) :=
    ⟨by simp, by simp, by simp, by simp, by simp, by simp, by simp⟩
  exact (s.keepsRecords_setSupply h).trans same.keeps

theorem State.keepsRecords_setBranch {b : Branch}
    (h : s.branch.InOrder s.store.active → b.InOrder s.store.active) :
    s.KeepsRecordLaws (s.setBranch b) :=
  ⟨id, id, id, id, fun law => (State.branchLaw_iff _).mpr (h (s.branchLaw_iff.mp law))⟩

theorem State.keepsRecords_setStaged (x : Option Staged) : s.KeepsRecordLaws (s.setStaged x) :=
  ⟨id, id, id, id, id⟩

/-- A zone's record is replaced; where the contact holds the zone, its ALARM stays (R36). -/
theorem State.keepsRecords_setZoneRuntime (z : ZoneNo) (r : ZoneRuntime)
    (h : (s.zone.zones.get z).alarm = true → s.contactHolds z = true → r.alarm = true) :
    s.KeepsRecordLaws (s.setZoneRuntime z r) where
  weather := id
  supply := id
  supervision := id
  branch := id
  contact law isNode active := by
    change ((s.zone.zones.set z r).get s.node.contactZone).alarm = true
    have alarm : (s.zone.zones.get s.node.contactZone).alarm = true := law isNode active
    rw [Table.get_set]
    split
    next here =>
      subst here
      replace active : s.effective = .active := active
      exact h alarm (by simp [State.contactHolds, active])
    next => exact alarm

/-! ## Panel supervision and the contact (R35, R36, R38, R40) -/

/-- A panel frame restarts the timer from generation 1 on; the state is LOST in no other (R38, R40). -/
theorem State.keepsRecords_hear (src : Nat) : s.KeepsRecordLaws (s.hear src) := by
  have restarted (law : s.SupervisionLaw) (one : 1 ≤ s.store.generation) :
      (s.setZone { s.zone with supervision := ⟨false, some s.now⟩ }).SupervisionLaw :=
    ⟨(decide_eq_true one).symm, fun _ => rfl⟩
  unfold State.hear
  split
  · split
    next lost =>
      have one (law : s.SupervisionLaw) : 1 ≤ s.store.generation := by
        by_contra zero
        have ok := law.2 (by omega)
        rw [lost] at ok
        cases ok
      exact ⟨id, id, fun law => restarted law (one law), id, id⟩
    · split
      next one => exact ⟨id, id, fun law => restarted law one, id, id⟩
      next => exact .refl s
  · exact .refl s

theorem State.keepsRecords_supervise (src : Nat) : s.KeepsRecordLaws (s.supervise src) :=
  (s.keepsRecords_hear src).trans (State.keepsRecords_settle _ _)

/-- The supervision timer runs out from generation 1 on, where LOST has no timer (R38, R39). -/
theorem State.keepsRecords_panelTimeout (due : s.panelDue = true) :
    s.KeepsRecordLaws ((s.fallbackEvent ⟨true, none⟩).settle s) where
  weather := id
  supply := id
  contact := id
  branch := id
  supervision law := by
    refine ⟨rfl, fun zero => ?_⟩
    have runs : s.zone.supervision.timer.isSome = true := by
      obtain ⟨-, held⟩ := Bool.and_eq_true_iff.mp due
      cases timer : s.zone.supervision.timer <;> simp_all
    have idle : ¬ 1 ≤ s.store.generation := by
      replace zero : s.store.generation = 0 := zero
      omega
    simp [law.1, idle] at runs

/-- After a contact alarm contact_zone is in ALARM, whatever was before (R35). -/
theorem State.contactAlarm_contactLaw : s.contactAlarm.ContactLaw := fun _ _ => by
  change ((s.zone.zones.set s.node.contactZone _).get s.node.contactZone).alarm = true
  rw [Table.get_set_self]
  rfl

/-- A change accepted either makes the contact ACTIVE, with an alarm, or leaves it ACTIVE only where it was
(R32, R34, R35). -/
theorem State.keepsRecords_acceptContact : s.KeepsRecordLaws s.acceptContact := by
  unfold State.acceptContact
  dsimp only
  split
  next => exact ⟨id, id, id, fun _ =>
      (State.keepsRecords_settle _ s).contact (State.contactAlarm_contactLaw _), id⟩
  next quiet =>
    refine ⟨id, id, id, fun law isNode active => law isNode ?_, id⟩
    cases before : s.effective
    · rfl
    · exact absurd ⟨before, active, isNode⟩ quiet

/-! ## Node reset, power-on and commit -/

theorem State.keepsRecords_nodeReset : s.KeepsRecordLaws s.nodeReset where
  weather := id
  supply law := (State.supplyLaw_iff _).mpr
    (Supply.inOrder_of_zero rfl rfl rfl nofun (s.supplyLaw_iff.mp law).last)
  supervision _ := by
    refine ⟨?_, fun _ => rfl⟩
    change Option.isSome (if 1 ≤ s.store.generation then some s.now else none) = _
    by_cases one : 1 ≤ s.store.generation <;> simp [State.nodeReset, one]
  contact := id
  branch _ := (State.branchLaw_iff _).mpr
    ⟨⟨Nat.zero_le 8, .nil⟩, ⟨Nat.zero_le 16, .nil⟩, nofun, isStation_one⟩

theorem State.keepsRecords_powerOn (straps : Nat) (rate : LineRate) (contact : Level) :
    s.KeepsRecordLaws (s.powerOn straps rate contact) where
  weather _ := (State.weatherLaw_iff _).mpr
    ⟨holdInOrder_stopped _ _, holdInOrder_stopped _ _, rfl, Nat.zero_le 600⟩
  supply _ := (State.supplyLaw_iff _).mpr (Supply.inOrder_of_zero rfl rfl rfl nofun nofun)
  supervision _ := ⟨rfl, fun _ => rfl⟩
  contact _ _ active := by cases active
  branch _ := (State.branchLaw_iff _).mpr
    ⟨⟨Nat.zero_le 8, .nil⟩, ⟨Nat.zero_le 16, .nil⟩, nofun, isStation_one⟩

variable (new : ConfigSet)

theorem State.commit_generation : (s.commit new).store.generation = s.store.generation + 1 := by
  unfold State.commit State.commitSupply
  dsimp only
  split <;> simp

theorem State.commit_repeater : (s.commit new).repeater = s.repeater := by
  unfold State.repeater State.commit State.commitSupply
  dsimp only
  split <;> simp

theorem State.commit_supplyLaw (law : s.SupplyLaw) : (s.commit new).SupplyLaw := by
  rw [State.supplyLaw_iff, s.commit_supply]
  exact (s.supplyLaw_iff.mp law).commit s.node new.node

theorem State.commit_supervisionLaw (law : s.SupervisionLaw) : (s.commit new).SupervisionLaw := by
  unfold State.SupervisionLaw
  rw [s.commit_generation, s.commit_zone, State.commitZone]
  refine ⟨?_, nofun⟩
  cases lost : s.zone.supervision.lost
  · simp
  · simpa [lost] using law.1

/-- A commit under which the contact is ACTIVE has made an alarm in contact_zone, unless the contact was
ACTIVE before for the same zone (R36). -/
theorem State.commit_contactLaw (law : s.ContactLaw) : (s.commit new).ContactLaw := by
  intro isNode active
  have zone : (s.commit new).node.contactZone = new.node.contactZone := by
    rw [State.node, s.commit_active]
  rw [zone, s.commit_zone]
  by_cases alarm : s.contactRises new = true ∨ s.contactMoves new = true
  · rw [s.commitZone_of_alarm new alarm, Table.get_modify_self]
    rfl
  · rw [s.commitZone_of_quiet new alarm]
    rw [s.contactRises_iff, s.contactMoves_iff] at alarm
    obtain ⟨still, stays⟩ := not_or.mp alarm
    have before : s.effective = .active := by
      cases level : s.effective
      · rfl
      · exact absurd ⟨level, active⟩ still
    have same : s.node.contactZone = new.node.contactZone := by
      by_contra moved
      exact stays ⟨before, active, moved⟩
    exact same ▸ law (s.commit_repeater new ▸ isNode) before

theorem State.commit_branchLaw (law : s.BranchLaw) : (s.commit new).BranchLaw := by
  have h := s.branchLaw_iff.mp law
  rw [State.branchLaw_iff, s.commit_branch, s.commit_active]
  exact
    { strangers := h.strangers.sublist List.filter_sublist
      farewell := (h.farewell.foldl _).sublist List.filter_sublist
      unclaimed := fun x present => by simpa using (List.mem_filter.mp present).2
      pointer := h.pointer }

theorem State.keepsRecords_commit : s.KeepsRecordLaws (s.commit new) :=
  ⟨s.commit_weatherLaw new, s.commit_supplyLaw new, s.commit_supervisionLaw new,
    s.commit_contactLaw new, s.commit_branchLaw new⟩

end Blocks

end Sys2Proof.Machine

/-! SUPPORT. Every command keeps the five record laws: what each owner of a frame kind, each timed event and
each outcome on the branch line does to their records, and the step lemma. -/

namespace Sys2Proof.Machine

/-! ## Frames (R151 to R156) -/

section Frames

variable (s : State) (p : TrunkPort) (f : Frame)

theorem State.SameRecords.trans {s t u : State} (h : s.SameRecords t) (k : t.SameRecords u) :
    s.SameRecords u :=
  ⟨k.address.trans h.address, k.active.trans h.active, k.generation.trans h.generation,
    k.zone.trans h.zone, k.weather.trans h.weather, k.branch.trans h.branch, k.supply.trans h.supply⟩

theorem State.sameRecords_setPort (x : Port) : s.SameRecords (s.setPort p x) :=
  ⟨Trunk.setPort_address _ p x, rfl, rfl, rfl, rfl, rfl, rfl⟩

theorem State.sameRecords_setFreeCount (k : Nat) : s.SameRecords (s.setFreeCount k) :=
  ⟨rfl, rfl, rfl, rfl, rfl, rfl, rfl⟩

theorem State.sameRecords_logError (k : ErrorKind) (port : ErrorPort) (c : Captured) :
    s.SameRecords (s.logError k port c) :=
  ⟨by simp, by simp, by simp, by simp, by simp, by simp, by simp⟩

theorem State.sameRecords_logOption (k : Option ErrorKind) : s.SameRecords (s.logOption k p f) :=
  ⟨by simp, by simp, by simp, by simp, by simp, by simp, by simp⟩

theorem State.sameRecords_forward : s.SameRecords (s.forward p f).1 := by
  obtain ⟨x, trunk⟩ := s.forward_trunk p f
  exact ⟨by simp [trunk], by simp, by simp, by simp, by simp, by simp, by simp⟩

theorem State.sameRecords_forwardOnly : s.SameRecords (s.forwardOnly p f) :=
  (s.sameRecords_forward p f).trans (State.sameRecords_logOption _ p f _)

/-- A reply, and the node reset that a discarded reply brings about (R155, R159). -/
theorem State.keepsRecords_reply (a : Nat) (status : Status) (body : List Byte) (reset : Bool) :
    s.KeepsRecordLaws (s.reply p f a status body reset) := by
  have taken (x : Port) : s.SameRecords (s.setPort p x) := s.sameRecords_setPort p x
  have full : s.SameRecords (s.logFrame .queueFull p f) := s.sameRecords_logError _ _ _
  unfold State.reply
  dsimp only
  split
  · split
    · exact (taken _).keeps.trans ⟨id, id, id, id, id⟩
    · exact (taken _).keeps
  · split
    · exact full.keeps.trans (State.keepsRecords_nodeReset _)
    · exact full.keeps
  · split
    · exact s.keepsRecords_nodeReset
    · exact .refl s

/-- After its owner acted, a broadcast's forwarding and line errors change no record. -/
theorem State.sameRecords_actAndForward (act : State → Acted) :
    (act s).state.SameRecords (s.actAndForward p f act) := by
  have forwarded := (act s).state.sameRecords_forward p f
  unfold State.actAndForward
  dsimp only
  split
  · have counted := forwarded.trans (State.sameRecords_setFreeCount _
      (((act s).state.forward p f).1.freeCount + 1))
    split <;> exact (counted.trans (State.sameRecords_logError _ _ _ _)).trans
      (State.sameRecords_logError _ _ _ _)
  · exact forwarded.trans (State.sameRecords_logError _ _ _ _)
  · exact forwarded.trans (State.sameRecords_logOption _ p f _)

end Frames

/-- Whatever state it finds, the owner keeps the five laws. -/
def Owner.KeepsRecords (o : Owner) : Prop := ∀ s : State, s.KeepsRecordLaws (o.act s).state

/-- Panel supervision before the owner, and the settling after it, keep the laws too. -/
theorem Owner.KeepsRecords.run {o : Owner} (h : o.KeepsRecords) (src : Nat) (s : State) :
    s.KeepsRecordLaws (o.run src s).state := by
  unfold Owner.run
  split
  · exact ((s.keepsRecords_hear src).trans (h _)).trans (State.keepsRecords_settle _ s)
  · exact (s.keepsRecords_supervise src).trans (h _)

theorem State.keepsRecords_receive (s : State) (p : TrunkPort) (f : Frame) (owner : Option Owner)
    (h : ∀ o ∈ owner, o.KeepsRecords) : s.KeepsRecordLaws (s.receive p f owner) := by
  obtain ⟨-, repeater⟩ | ⟨-, loop⟩ | ⟨a, -, -, arrived⟩ := s.receive_cases p f owner
  · exact repeater ▸ (s.sameRecords_forwardOnly p f).keeps
  · exact loop ▸ (s.sameRecords_logError _ _ _).keeps
  · obtain ⟨-, o, ho, acts⟩ | ⟨-, -, acts⟩ | ⟨-, -, -, o, ho, acts⟩ | ⟨-, -, acts⟩ := arrived
    · have logged := (State.sameRecords_logOption (o.run f.src s).state p f (o.run f.src s).error).keeps
      exact acts ▸ (((h o ho).run f.src s).trans logged).trans (State.keepsRecords_reply _ p f a _ _ _)
    · exact acts ▸ s.keepsRecords_supervise f.src
    · exact acts ▸ ((h o ho).run f.src s).trans (s.sameRecords_actAndForward p f _).keeps
    · exact acts ▸ (s.keepsRecords_supervise f.src).trans (State.sameRecords_forwardOnly _ p f).keeps

/-! ## Owners -/

theorem State.KeepsRecordLaws.ok {s t : State} (h : s.KeepsRecordLaws t) (body : List Byte) :
    s.KeepsRecordLaws (Acted.ok body t).state := h

/-- An owner that leaves the state as it found it. -/
theorem Owner.keepsRecords_of_answer {o : Owner} (h : ∀ s, (o.act s).state = s) : o.KeepsRecords :=
  fun s => (h s).symm ▸ .refl s

theorem actZoneAlarm_keepsRecords (zone : Nat) (episode : Option Positions) :
    Owner.KeepsRecords ⟨true, actZoneAlarm zone episode⟩ := by
  intro s
  dsimp only [actZoneAlarm]
  split
  · exact .refl s
  · split
    · refine State.KeepsRecordLaws.ok ?_ _
      exact (s.keepsRecords_setZoneRuntime _ _ fun _ _ => rfl).trans (State.keepsRecords_mapChannels _ _)
    · exact .refl s

/-- A reset of the zone that the contact holds leaves it in ALARM (R28, R36). -/
theorem actZoneReset_keepsRecords (zone : Nat) : Owner.KeepsRecords ⟨true, actZoneReset zone⟩ := by
  intro s
  dsimp only [actZoneReset]
  split
  · exact .refl s
  · split
    · exact s.keepsRecords_setZoneRuntime _ _ fun alarm _ => alarm
    next free =>
      refine State.KeepsRecordLaws.ok ?_ _
      exact (s.keepsRecords_setZoneRuntime _ _ fun _ holds => absurd holds free).trans
        (State.keepsRecords_mapChannels _ _)

theorem actWeather_keepsRecords (src speed direction rain : Nat) :
    Owner.KeepsRecords ⟨true, actWeather src speed direction rain⟩ := by
  intro s
  dsimp only [actWeather]
  split
  · exact s.keepsRecords_changeWeather fun h => h.frame _ _ _ _ _
  · exact .refl s

theorem actGroupSet_keepsRecords (group position mode : Nat) :
    Owner.KeepsRecords ⟨true, actGroupSet group position mode⟩ := by
  intro s
  dsimp only [actGroupSet]
  split <;> [exact (s.keepsRecords_mapChannels _).ok _; exact .refl s]

theorem actGroupRelease_keepsRecords (group : Nat) :
    Owner.KeepsRecords ⟨true, actGroupRelease group⟩ := by
  intro s
  dsimp only [actGroupRelease]
  split <;> [exact (s.keepsRecords_mapChannels _).ok _; exact .refl s]

theorem actSetWrite_keepsRecords (src table index : Nat) (record : List Byte) :
    Owner.KeepsRecords ⟨false, actSetWrite src table index record⟩ := by
  intro s
  dsimp only [actSetWrite]
  split
  · exact .refl s
  · split
    · exact (s.sameRecords_setFreeCount _).keeps
    · split
      · exact .refl s
      · split
        · exact .refl s
        · split <;> [exact (s.keepsRecords_setStaged _).ok _; exact .refl s]

theorem actSetCommit_keepsRecords (src tally generation : Nat) :
    Owner.KeepsRecords ⟨true, actSetCommit src tally generation⟩ := by
  intro s
  dsimp only [actSetCommit]
  split
  · exact .refl s
  · split_ifs
    any_goals exact .refl s
    split
    · exact .refl s
    · exact s.keepsRecords_commit _

theorem actRead_keepsRecords (table index copy : Nat) :
    Owner.KeepsRecords ⟨false, actRead table index copy⟩ := by
  refine Owner.keepsRecords_of_answer fun s => ?_
  dsimp only [actRead]
  split
  · split_ifs <;> rfl
  · split
    · rfl
    · split_ifs <;> [rfl; rfl; (split <;> rfl); rfl]

theorem actQuery_keepsRecords (subject index : Nat) :
    Owner.KeepsRecords ⟨false, actQuery subject index⟩ := by
  refine Owner.keepsRecords_of_answer fun s => ?_
  dsimp only [actQuery]
  split <;> [(split <;> rfl); (split <;> rfl); (split <;> rfl); rfl]

theorem actCollect_keepsRecords : Owner.KeepsRecords ⟨false, actCollect⟩ := by
  intro s
  dsimp only [actCollect]
  split <;> [exact ⟨id, id, id, id, id⟩; exact .refl s]

theorem actLampSet_keepsRecords (channel value : Nat) :
    Owner.KeepsRecords ⟨false, actLampSet channel value⟩ := by
  intro s
  dsimp only [actLampSet]
  split <;> [exact (s.keepsRecords_mapChannel _ _).ok _; exact .refl s]

theorem actChannelClear_keepsRecords (channel : Nat) :
    Owner.KeepsRecords ⟨false, actChannelClear channel⟩ := by
  intro s
  dsimp only [actChannelClear]
  split
  · exact (s.keepsRecords_mapChannels _).ok _
  · split <;> [exact (s.keepsRecords_mapChannel _ _).ok _; exact .refl s]

/-- The cleared overflow mark is in no law. -/
theorem actErrorClear_keepsRecords : Owner.KeepsRecords ⟨false, actErrorClear⟩ :=
  fun _ => ⟨id, id, id, id, id⟩

theorem actSupplyClear_keepsRecords : Owner.KeepsRecords ⟨false, actSupplyClear⟩ := by
  intro s
  dsimp only [actSupplyClear]
  split
  · dsimp only [Acted.ok]
    split <;> [exact .refl s; exact s.keepsRecords_changeSupply fun h => h.back]
  · exact .refl s

theorem actBadLength_keepsRecords (kind : FrameKind) : Owner.KeepsRecords ⟨false, actBadLength kind⟩ :=
  fun s => (s.sameRecords_setFreeCount _).keeps

/-! ## The branch line (R110 to R121) -/

section BranchLine

variable (s : State) (n : ChannelNo)

/-- A stranger replaces the entry of its station, joins the list where it has room, or overflows it
(R120). -/
theorem State.keepsRecords_addStranger (x : Stranger) : s.KeepsRecordLaws (s.addStranger x) := by
  have listed (l : List Stranger) (h : StrangersInOrder s.branch.strangers → StrangersInOrder l) :
      s.KeepsRecordLaws ((s.setBranch { s.branch with strangers := l }).raise (.stranger x.station)) := by
    refine State.KeepsRecordLaws.trans (s.keepsRecords_setBranch ?_) (State.keepsRecords_raise _ _)
    exact fun b => { b with strangers := h b.strangers }
  unfold State.addStranger
  dsimp only
  split_ifs with known replaces room
  · exact .refl s
  · obtain ⟨y, present, same⟩ := List.any_eq_true.mp replaces
    exact listed _ fun h => h.replace present (of_decide_eq_true same)
  · refine listed _ fun h => h.append room fun y present same => replaces ?_
    exact List.any_eq_true.mpr ⟨y, present, decide_eq_true same⟩
  · exact s.keepsRecords_setBranch fun b => { b with }

theorem State.keepsRecords_keepStrangers (keep : Stranger → Bool) :
    s.KeepsRecordLaws (s.keepStrangers keep) :=
  s.keepsRecords_setBranch fun b => { b with strangers := b.strangers.sublist List.filter_sublist }

theorem State.keepsRecords_miss : s.KeepsRecordLaws (s.miss n) := by
  unfold State.miss
  dsimp only
  split
  · exact (s.keepsRecords_mapChannel n _).trans (State.keepsRecords_raise _ _)
  · exact s.keepsRecords_mapChannel n _

theorem State.keepsRecords_channelMiss : s.KeepsRecordLaws (s.channelMiss n) := by
  unfold State.channelMiss
  split <;> [exact s.keepsRecords_miss n; exact .refl s]

theorem State.keepsRecords_boundAnswer (a : Answer) (command : DriveCommand) :
    s.KeepsRecordLaws (s.boundAnswer n a command) := by
  have raised (t : State) (x : Option Notice) : t.SameRecords (t.raiseOption x) :=
    ⟨by simp, by simp, by simp, by simp, by simp, by simp, by simp⟩
  exact (s.keepsRecords_setChannels _).trans (raised _ _).keeps

theorem State.keepsRecords_bindChannel (a : Answer) : s.KeepsRecordLaws (s.bindChannel n a) :=
  ((s.keepsRecords_keepStrangers _).trans (State.keepsRecords_mapChannel _ n _)).trans
    (State.keepsRecords_raise _ _)

theorem State.keepsRecords_channelAnswer (a : Answer) (command : DriveCommand) :
    s.KeepsRecordLaws (s.channelAnswer n a command) := by
  unfold State.channelAnswer
  dsimp only
  split
  · split_ifs
    · exact s.keepsRecords_boundAnswer n a command
    · exact s.keepsRecords_miss n
    · exact (s.keepsRecords_addStranger _).trans (State.keepsRecords_miss _ n)
  · split
    · exact s.keepsRecords_bindChannel n a
    · exact s.keepsRecords_addStranger _

theorem State.keepsRecords_goodAnswer (x : Exchange) (a : Answer) :
    s.KeepsRecordLaws (s.goodAnswer x a) := by
  unfold State.goodAnswer
  split
  · exact s.keepsRecords_channelAnswer _ a _
  · exact .refl s
  · exact .refl s
  · unfold State.discoveryAnswer
    split <;> [exact .refl s; exact s.keepsRecords_addStranger _]

theorem State.keepsRecords_garbledAnswer (x : Exchange) : s.KeepsRecordLaws (s.garbledAnswer x) := by
  unfold State.garbledAnswer
  dsimp only
  split
  · exact (s.sameRecords_logError _ _ _).keeps.trans (State.keepsRecords_channelMiss _ _)
  · exact (s.sameRecords_logError _ _ _).keeps

theorem State.keepsRecords_noAnswer (x : Exchange) : s.KeepsRecordLaws (s.noAnswer x) := by
  unfold State.noAnswer
  split
  · exact s.keepsRecords_channelMiss _
  · exact .refl s
  · exact .refl s
  · exact s.keepsRecords_keepStrangers _

theorem State.keepsRecords_endExchange : s.KeepsRecordLaws s.endExchange :=
  s.keepsRecords_setBranch fun b => { b with }

theorem State.keepsRecords_closeWindow : s.KeepsRecordLaws s.closeWindow := by
  unfold State.closeWindow
  split
  · exact .refl s
  · exact s.keepsRecords_endExchange.trans (State.keepsRecords_noAnswer _ _)

theorem State.keepsRecords_startSlot (index : Fin 24) (start : Nat) :
    s.KeepsRecordLaws (s.startSlot index start) := by
  have opened (schedule : Schedule) (running : Table Slot 24) :
      s.KeepsRecordLaws (s.setBranch { s.branch with schedule, running }) :=
    s.keepsRecords_setBranch fun b => { b with }
  exact (opened _ _).trans (State.keepsRecords_setBranch _ fun b => b.serve _ _)

end BranchLine

theorem State.keepsRecords_endTransmission (s : State) (p : TrunkPort) :
    s.KeepsRecordLaws (s.endTransmission p) := by
  unfold State.endTransmission
  split
  · exact .refl s
  · dsimp only
    split
    · exact (s.sameRecords_setPort p _).keeps.trans (State.keepsRecords_nodeReset _)
    · exact (s.sameRecords_setPort p _).keeps

/-! ## Commands -/

/-- Whatever next state the command answers, the five laws go over to it. -/
def State.OutcomeKeepsRecords (s : State) (o : Host.Outcome State Fault Refusal) : Prop :=
  ∀ t, o = .next t → s.KeepsRecordLaws t

theorem State.KeepsRecordLaws.next {s t : State} (h : s.KeepsRecordLaws t) :
    s.OutcomeKeepsRecords (.next t) :=
  fun _ same => Host.Outcome.next.inj same ▸ h

/-- An event that has not come about changes nothing. -/
theorem State.keepsRecords_whenDue {s t : State} (p : Prop) [Decidable p]
    (h : p → s.KeepsRecordLaws t) : s.OutcomeKeepsRecords (if p then .next t else .next s) := by
  split <;> [exact (h ‹p›).next; exact (State.KeepsRecordLaws.refl s).next]

theorem Owner.KeepsRecords.receive {o : Owner} (h : o.KeepsRecords) (s : State) (p : TrunkPort)
    (f : Frame) : s.OutcomeKeepsRecords (.next (s.receive p f (some o))) :=
  (s.keepsRecords_receive p f (some o) fun _ same => Option.some.inj same ▸ h).next

theorem execFrame_keepsRecords (c : Instr) (s : State) : s.OutcomeKeepsRecords (execFrame c s) := by
  cases c
  case unknownKind => exact (Owner.keepsRecords_of_answer fun _ => rfl).receive s _ _
  case zoneAlarm => exact (actZoneAlarm_keepsRecords _ _).receive s _ _
  case zoneReset => exact (actZoneReset_keepsRecords _).receive s _ _
  case weather => exact (actWeather_keepsRecords _ _ _ _).receive s _ _
  case groupSet => exact (actGroupSet_keepsRecords _ _ _).receive s _ _
  case groupRelease => exact (actGroupRelease_keepsRecords _).receive s _ _
  case setWrite => exact (actSetWrite_keepsRecords _ _ _ _).receive s _ _
  case setCommit => exact (actSetCommit_keepsRecords _ _ _).receive s _ _
  case setDiscard =>
    exact Owner.KeepsRecords.receive (fun t => t.keepsRecords_setStaged none) s _ _
  case read => exact (actRead_keepsRecords _ _ _).receive s _ _
  case query => exact (actQuery_keepsRecords _ _).receive s _ _
  case collect => exact actCollect_keepsRecords.receive s _ _
  case lampSet => exact (actLampSet_keepsRecords _ _).receive s _ _
  case channelClear => exact (actChannelClear_keepsRecords _).receive s _ _
  case errorClear => exact actErrorClear_keepsRecords.receive s _ _
  case supplyClear => exact actSupplyClear_keepsRecords.receive s _ _
  case nodeReset => exact (Owner.keepsRecords_of_answer fun _ => rfl).receive s _ _
  all_goals exact (State.KeepsRecordLaws.refl s).next

theorem ownerOfRest_keepsRecords (f : Frame) : ∀ o ∈ ownerOfRest f, o.KeepsRecords := by
  unfold ownerOfRest
  split
  · exact nofun
  next k _ _ => exact fun o same => Option.some.inj same ▸ actBadLength_keepsRecords k
  · exact nofun

theorem execFrameReception_keepsRecords (p : TrunkPort) (period : Nat) (chars : List Byte) (s : State) :
    s.OutcomeKeepsRecords (execFrameReception p period chars s) := by
  unfold execFrameReception
  split
  · exact (State.KeepsRecordLaws.refl s).next
  · split
    · exact (s.sameRecords_logError _ _ _).keeps.next
    · exact (s.sameRecords_logError _ _ _).keeps.next
    · split
      · exact execFrame_keepsRecords _ s
      · exact (s.keepsRecords_receive p _ _ (ownerOfRest_keepsRecords _)).next

theorem execSlotStart_keepsRecords (s : State) : s.OutcomeKeepsRecords (execSlotStart s) := by
  have started (index : Fin 24) (start : Nat) := s.keepsRecords_closeWindow.trans
    (State.keepsRecords_startSlot _ index start)
  unfold execSlotStart
  split
  · exact (State.KeepsRecordLaws.refl s).next
  · exact State.keepsRecords_whenDue _ fun _ => started _ _
  · exact State.keepsRecords_whenDue _ fun _ => started _ _

theorem execBranchReception_keepsRecords (chars : List Byte) (s : State) :
    s.OutcomeKeepsRecords (execBranchReception chars s) := by
  unfold execBranchReception
  split
  · exact (State.KeepsRecordLaws.refl s).next
  · split
    · split
      · exact (s.keepsRecords_endExchange.trans (State.keepsRecords_goodAnswer _ _ _)).next
      · exact (s.keepsRecords_endExchange.trans (State.keepsRecords_garbledAnswer _ _)).next
    · exact (State.KeepsRecordLaws.refl s).next

theorem execAnswerWindowClose_keepsRecords (s : State) :
    s.OutcomeKeepsRecords (execAnswerWindowClose s) := by
  unfold execAnswerWindowClose
  split
  · exact (State.KeepsRecordLaws.refl s).next
  · exact State.keepsRecords_whenDue _ fun _ => s.keepsRecords_closeWindow

theorem execSupplySample_keepsRecords (reading : Nat) (s : State) :
    s.OutcomeKeepsRecords (execSupplySample reading s) := by
  unfold execSupplySample
  split
  · dsimp only
    split
    · exact (s.keepsRecords_setSupply fun h => h.sample s.node reading).next
    · exact (s.keepsRecords_changeSupply fun h => h.sample s.node reading).next
  · exact (State.KeepsRecordLaws.refl s).next

theorem execLinkDown_keepsRecords (p : TrunkPort) (s : State) :
    s.OutcomeKeepsRecords (execLinkDown p s) := by
  have emptied (x : Port) := (s.sameRecords_setPort p x).keeps
  unfold execLinkDown
  dsimp only
  split <;> [exact ((emptied _).trans (State.keepsRecords_nodeReset _)).next; exact (emptied _).next]

theorem execNodeResetTakesEffect_keepsRecords (s : State) :
    s.OutcomeKeepsRecords (execNodeResetTakesEffect s) := by
  unfold execNodeResetTakesEffect
  split
  · exact (s.keepsRecords_endTransmission .up).next
  · exact State.keepsRecords_whenDue _ fun _ => s.keepsRecords_endTransmission .down

/-- The station's timer runs when it is due (R47, R53). -/
theorem State.stationTimer_of_due {s : State} (due : s.stationDue = true) :
    s.weather.stationTimer.isNone = false := by
  unfold State.stationDue at due
  cases timer : s.weather.stationTimer <;> simp_all

/-- The frame commands keep the laws by their owners, the others by their event. -/
theorem exec_keepsRecords (c : Instr) (s : State) : s.OutcomeKeepsRecords (exec c s) := by
  have frame := execFrame_keepsRecords c s
  have settled {w : WeatherRuntime} (h : s.weather.InOrder s.store.active.weather.policy →
      w.InOrder s.store.active.weather.policy) : s.KeepsRecordLaws ((s.changeWeather w).settle s) :=
    (s.keepsRecords_changeWeather h).trans (State.keepsRecords_settle _ s)
  cases c
  case powerOn => exact (s.keepsRecords_powerOn _ _ _).next
  case linkDown p => exact execLinkDown_keepsRecords p s
  case linkUp p => exact (s.sameRecords_setPort p _).keeps.next
  case frameReception p period chars => exact execFrameReception_keepsRecords p period chars s
  case nodeResetTakesEffect => exact execNodeResetTakesEffect_keepsRecords s
  case transmissionEnd p => exact (s.keepsRecords_endTransmission p).next
  case transmissionStart p =>
    exact State.keepsRecords_whenDue _ fun _ => (s.sameRecords_setPort p _).keeps
  case contactInputChange level =>
    have accepted : (s.zone.contact.input level s.now).accepted = s.zone.contact.accepted := by
      unfold Contact.input; split <;> rfl
    refine State.KeepsRecordLaws.next ⟨id, id, id, fun law isNode active => law isNode ?_, id⟩
    exact (congrArg (effectiveContact s.node.contactSource) accepted).symm.trans active
  case pendingChangeAccepted =>
    exact State.keepsRecords_whenDue _ fun _ => s.keepsRecords_acceptContact
  case panelTimeout => exact State.keepsRecords_whenDue _ s.keepsRecords_panelTimeout
  case rainHoldExpiry => exact State.keepsRecords_whenDue _ fun _ => settled fun h => h.endRain
  case stormHoldExpiry => exact State.keepsRecords_whenDue _ fun _ => settled fun h => h.endStorm
  case stationTimeout =>
    exact State.keepsRecords_whenDue _ fun due =>
      settled fun h => h.lose s.now (State.stationTimer_of_due due)
  case dwellExpiry n => exact State.keepsRecords_whenDue _ fun _ => s.keepsRecords_mapChannel n _
  case retryExpiry n => exact State.keepsRecords_whenDue _ fun _ => s.keepsRecords_mapChannel n _
  case supplySample reading => exact execSupplySample_keepsRecords reading s
  case slotStart => exact execSlotStart_keepsRecords s
  case branchReception chars => exact execBranchReception_keepsRecords chars s
  case answerWindowClose => exact execAnswerWindowClose_keepsRecords s
  all_goals exact frame

theorem step_keepsRecords (s : State) : s.OutcomeKeepsRecords (step s) := by
  unfold step
  split
  · exact State.KeepsRecordLaws.next ⟨id, id, id, id, id⟩
  next c rest _ =>
    have popped : s.KeepsRecordLaws (s.setPending rest) := ⟨id, id, id, id, id⟩
    exact fun t ran => popped.trans (exec_keepsRecords c _ t ran)

/-- Settles O57, by the step lemma: every command keeps each of the five laws. -/
theorem stepKeepsRecordLaws : Obligations.StepKeepsRecordLaws := fun s t ran =>
  have keeps := step_keepsRecords s t ran
  ⟨keeps.weather, keeps.supply, keeps.supervision, keeps.contact, keeps.branch⟩

end Sys2Proof.Machine

/-! SUPPORT. The Weather Unit's events (R47 to R58): what they make of each channel, and the statements about
WEATHER, the two hold expiries and the station timeout. -/

namespace Sys2Proof.Machine

/-! ## A weather record replaced, and its channels' W cells (R57, R58) -/

/-- In an event that began in `s` and has changed nothing but what panel supervision changes (`t`), an in-use
channel has the W cell the new record asks for and is composed once; another is left as it is. -/
theorem State.changeWeather_settle_channel (s t : State) (w : WeatherRuntime) (n : ChannelNo)
    (store : t.store = s.store) (supply : t.supply = s.supply) (now : t.now = s.now) :
    ((t.changeWeather w).settle s).channels.get n
      = ((t.channels.get n).place (s.record n) .w
          (weatherCell s.store.active.weather.policy w (s.record n))).settle { s.ctx with weather := w }
            (s.record n) (s.weather.windChanged w) (s.channels.get n).stack := by
  have record : (t.changeWeather w).record n = s.record n := State.record_of_store _ _ _ store
  have ctx : (t.changeWeather w).ctx = { s.ctx with weather := w } := by
    simp [State.ctx, store, supply, now]
  have placed : (t.changeWeather w).channels.get n
      = (t.channels.get n).place (s.record n) .w
          (weatherCell s.store.active.weather.policy w (s.record n)) := by
    rw [← record, ← store]
    exact State.mapChannels_get _ _ n
  rw [State.settle_get, record, ctx, placed, State.changeWeather_weather]

/-! ## WEATHER (R48 to R51) -/

theorem weatherFrame_isBroadcast (rx : Rx) (speed direction rain : Nat) :
    (weatherFrame rx speed direction rain).isBroadcast = true := rfl

/-- The event in which a frame of an accepted source is heard and the weather record is replaced. -/
abbrev State.weatherEvent (s : State) (src : Nat) (w : WeatherRuntime) : State :=
  ((s.hear src).changeWeather w).settle s

theorem State.weatherEvent_eq (s : State) (src : Nat) (w : WeatherRuntime) :
    s.weatherEvent src w
      = ((s.supervise src).setWeather w).setChannels (s.weatherEvent src w).channels := rfl

/-- In that event the channels in use have the F cell supervision leaves them and the W cell of R57, and each
is composed once; the others are as they were. -/
theorem State.weatherEvent_channel (s : State) (src : Nat) (w : WeatherRuntime) (n : ChannelNo) :
    let c := s.channels.get n
    if (s.record n).inUse = true then
      (s.weatherEvent src w).channels.get n
        = ({ c with
            stack :=
              { s.heardStack src c.stack with
                w := weatherCell s.store.active.weather.policy w (s.record n) } }).settle
            { s.ctx with weather := w } (s.record n)
            (decide (w.speed ≠ s.weather.speed ∨ w.direction ≠ s.weather.direction
              ∨ w.lost ≠ s.weather.lost)) c.stack
    else (s.weatherEvent src w).channels.get n = c := by
  intro c
  have wind : s.weather.windChanged w = decide (w.speed ≠ s.weather.speed
      ∨ w.direction ≠ s.weather.direction ∨ w.lost ≠ s.weather.lost) := by
    simp only [WeatherRuntime.windChanged, Bool.decide_or, Bool.or_assoc]
  rw [State.changeWeather_settle_channel s _ w n (s.hear_store src) (s.hear_supply src) (s.hear_now src),
    wind, State.hear_channel]
  cases used : (s.record n).inUse
  · rw [if_neg (by decide), Channel.settle_unused _ _ _ _ _ used, Channel.place_unused _ _ _ _ used]
    rfl
  · rw [if_pos rfl, Channel.place_used _ _ _ _ used]
    rfl

/-- The owner acts on a frame of an accepted source alone (R48). -/
theorem actWeather_run (s : State) (src speed direction rain : Nat) :
    (⟨true, actWeather src speed direction rain⟩ : Owner).run src s
      = Acted.ok []
          (if weatherAccepted s.store.active.weather src then
            s.weatherEvent src
              (s.weather.frame s.now s.store.active.weather speed direction rain)
          else s.supervise src) := by
  cases known : weatherAccepted s.store.active.weather src
  · simp [Owner.run, actWeather, known, Acted.ok, State.supervise]
  · simp [Owner.run, actWeather, known, Acted.ok]

/-! ### A hold that a WEATHER frame finds (R49 step 1) -/

/-- The hold has frozen with the LOST station at its duration. -/
def HoldTimer.endsHeard (lost : Bool) (duration : Nat) : HoldTimer → Bool
  | .frozen e => lost && decide (duration ≤ e)
  | _ => false

/-- The hold's timer once the station is heard, where the hold goes on. -/
def HoldTimer.heard (now : Nat) (lost : Bool) : HoldTimer → HoldTimer
  | .frozen e => if lost then .running now e else .frozen e
  | h => h

theorem hearHold_of_ends {now duration : Nat} {lost on : Bool} {timer : HoldTimer}
    (ends : timer.endsHeard lost duration = true) :
    hearHold now duration lost (on, timer) = (false, .stopped) := by
  cases timer with
  | frozen e =>
    obtain ⟨isLost, due⟩ := Bool.and_eq_true_iff.mp ends
    simp [hearHold, isLost, resumeHold, HoldTimer.frozenDue, of_decide_eq_true due]
  | stopped => cases ends
  | running => cases ends

theorem hearHold_of_goesOn {now duration : Nat} {lost on : Bool} {timer : HoldTimer}
    (goesOn : timer.endsHeard lost duration = false) :
    hearHold now duration lost (on, timer) = (on, timer.heard now lost) := by
  cases timer with
  | frozen e =>
    cases lost with
    | true =>
      have early : ¬ duration ≤ e := by simpa [HoldTimer.endsHeard] using goesOn
      simp [hearHold, resumeHold, HoldTimer.frozenDue, HoldTimer.resume, HoldTimer.heard, early]
    | false => rfl
  | stopped => cases lost <;> rfl
  | running => cases lost <;> rfl

/-- The mark after the station is heard: it holds where it did and its hold has not run out. -/
theorem hearHold_fst (now duration : Nat) (lost on : Bool) (timer : HoldTimer) :
    (hearHold now duration lost (on, timer)).1 = (on && !timer.endsHeard lost duration) := by
  cases ends : timer.endsHeard lost duration
  · rw [hearHold_of_goesOn ends]; simp
  · rw [hearHold_of_ends ends]; simp

/-- A mark that still holds keeps its hold's timer, resumed. -/
theorem hearHold_of_on {now duration : Nat} {lost on : Bool} {timer : HoldTimer}
    (still : (on && !timer.endsHeard lost duration) = true) :
    hearHold now duration lost (on, timer) = (true, timer.heard now lost) := by
  obtain ⟨isOn, goesOn⟩ := Bool.and_eq_true_iff.mp still
  rw [hearHold_of_goesOn (by simpa using goesOn), isOn]

/-- A hold that goes on starts where it was stopped (R50, R51). -/
theorem HoldTimer.start_heard (now : Nat) (lost : Bool) (timer : HoldTimer) :
    (timer.heard now lost).start now
      = if timer = .stopped then .running now 0 else timer.heard now lost := by
  cases timer with
  | frozen e => cases lost <;> rfl
  | stopped => rfl
  | running => rfl

/-- Settles O20: the owner replaces the weather record in one event with panel supervision, and the record's
two holds are followed apart. -/
theorem weatherFrameIsApplied : Obligations.WeatherFrameIsApplied := by
  intro rx speed direction rain a s ⟨address, notLooped⟩ here r s1 f ends resumed wet storm
  have ends_eq (duration : Nat) (h : HoldTimer) : ends duration h = h.endsHeard s.weather.lost duration := by
    cases h <;> rfl
  have resumed_eq (h : HoldTimer) : resumed h = h.heard s.now s.weather.lost := by cases h <;> rfl
  have received := s.receive_of_acts rx.port f _ a _ address notLooped here
    (weatherFrame_isBroadcast ..) (actWeather_run s rx.src speed direction rain)
  refine ⟨fun strange => ?other, fun known => ?accepted⟩
  case other =>
    rw [if_neg (by simpa [weatherAccepted] using strange)] at received
    exact congrArg Host.Outcome.next received
  case accepted =>
    rw [if_pos (by simpa [weatherAccepted] using known)] at received
    let w := s.weather.frame s.now r speed direction rain
    have station : w.station = (min speed 600, index16 direction, false, some s.now) :=
      s.weather.frame_station s.now r speed direction rain
    have rains : w.rain = takeRain s.now (decide (rain ≠ 0))
        (hearHold s.now r.rainHoldMs s.weather.lost s.weather.rain) := s.weather.frame_rain ..
    have gales : w.gale = takeSpeed s.now r (min speed 600)
        (hearHold s.now r.stormHoldMs s.weather.lost s.weather.gale) := s.weather.frame_gale ..
    have wet_eq : (hearHold s.now r.rainHoldMs s.weather.lost s.weather.rain).1 = wet := by
      rw [hearHold_fst, ← ends_eq]
    have storm_eq : (hearHold s.now r.stormHoldMs s.weather.lost s.weather.gale).1 = storm := by
      rw [hearHold_fst, ← ends_eq]
    simp only [Prod.mk.injEq] at station
    obtain ⟨speedEq, directionEq, lostEq, timerEq⟩ := station
    refine ⟨w, (s.weatherEvent rx.src w).channels, congrArg Host.Outcome.next received, lostEq, timerEq,
      speedEq, directionEq, fun wetting => ?rain, fun dry was => ?dry, fun dry was => ?drying,
      fun was => ?calm, fun was rises => ?rises, fun was => ?storm, s.weatherEvent_channel rx.src w⟩
    case rain =>
      have on : w.rain = (true, .stopped) := by simpa [takeRain, wetting] using rains
      exact Prod.mk.inj on
    case dry =>
      rw [was] at wet_eq
      have off : w.rain = hearHold s.now r.rainHoldMs s.weather.lost s.weather.rain := by
        simpa [takeRain, dry, wet_eq] using rains
      exact (congrArg Prod.fst off).trans wet_eq
    case drying =>
      have still := hearHold_of_on (now := s.now) (by rw [← ends_eq r.rainHoldMs]; exact was)
      rw [still] at rains
      have on : w.rain = (true, (s.weather.rainHold.heard s.now s.weather.lost).start s.now) := by
        simpa [takeRain, dry] using rains
      rw [HoldTimer.start_heard, ← resumed_eq] at on
      exact Prod.mk.inj on
    case calm =>
      rw [was] at storm_eq
      rw [takeSpeed, storm_eq, if_neg (by decide)] at gales
      have mark := congrArg Prod.fst gales
      split at mark
      next rises => rw [decide_eq_true rises]; exact mark
      next below => rw [decide_eq_false below]; exact mark.trans storm_eq
    case rises =>
      rw [was] at storm_eq
      rw [takeSpeed, storm_eq, if_neg (by decide), if_pos rises] at gales
      exact congrArg Prod.snd gales
    case storm =>
      have still := hearHold_of_on (now := s.now) (by rw [← ends_eq r.stormHoldMs]; exact was)
      rw [still, takeSpeed, if_pos rfl, HoldTimer.start_heard, ← resumed_eq] at gales
      exact Prod.mk.inj gales

/-! ## Expiries (R52, R53, R55) -/

/-- A timed event that replaces the weather record but neither reading: the channels in use have the W cell of
R57, composed once where their stack or the station state changed. -/
theorem State.changeWeather_channel (s : State) (w : WeatherRuntime) (n : ChannelNo)
    (speed : w.speed = s.weather.speed) (direction : w.direction = s.weather.direction) :
    let c := s.channels.get n
    if (s.record n).inUse = true then
      ((s.changeWeather w).settle s).channels.get n
        = ({ c with
            stack := { c.stack with w := weatherCell s.store.active.weather.policy w (s.record n) } }).settle
            { s.ctx with weather := w } (s.record n) (decide (w.lost ≠ s.weather.lost)) c.stack
    else ((s.changeWeather w).settle s).channels.get n = c := by
  intro c
  have wind : s.weather.windChanged w = decide (w.lost ≠ s.weather.lost) := by
    simp [WeatherRuntime.windChanged, speed, direction]
  rw [State.changeWeather_settle_channel s s w n rfl rfl rfl, wind]
  cases used : (s.record n).inUse
  · rw [if_neg (by decide), Channel.place_unused _ _ _ _ used, Channel.settle_unused _ _ _ _ _ used]
  · rw [if_pos rfl, Channel.place_used _ _ _ _ used]
    rfl

/-- Settles O21: each expiry is due and replaces the weather record by the one named. -/
theorem weatherTimersExpire : Obligations.WeatherTimersExpire := by
  intro s r frozen written
  have frozen_eq (h : HoldTimer) : frozen h = h.freeze s.now := by cases h <;> rfl
  have writes {w : WeatherRuntime} {c : Instr} (speed : w.speed = s.weather.speed)
      (direction : w.direction = s.weather.direction)
      (ran : exec c s = .next ((s.changeWeather w).settle s)) : written w c :=
    ⟨((s.changeWeather w).settle s).channels, ran, fun n => s.changeWeather_channel w n speed direction⟩
  refine ⟨fun since before runs held => ?rain, fun since before runs held => ?storm,
    fun since runs held => ?station⟩
  case rain =>
    have due : s.weather.rainHold.due s.now r.rainHoldMs = true := by rw [runs]; exact decide_eq_true held
    exact writes rfl rfl (if_pos due)
  case storm =>
    have due : s.weather.stormHold.due s.now r.stormHoldMs = true := by rw [runs]; exact decide_eq_true held
    exact writes rfl rfl (if_pos due)
  case station =>
    have due : s.stationDue = true := by
      rw [State.stationDue, runs]
      exact decide_eq_true held
    have ran : exec .stationTimeout s
        = .next ((s.changeWeather (s.weather.lose s.now r.policy)).settle s) := if_pos due
    refine ⟨fun assume => ?_, fun hold => ?_⟩
    · rw [assume] at ran
      exact writes rfl rfl ran
    · rw [hold] at ran
      rw [frozen_eq, frozen_eq]
      exact writes rfl rfl ran

end Sys2Proof.Machine

/-! SUPPORT. What the producers of demand ask for (R30, R41, R54, R57): the W cell by the layers that apply, the
S cell as the first largest of the zones asked, the F cell. -/

namespace Sys2Proof.Machine

/-! ## The W cell (R54, R57) -/

theorem assumesWorst_iff (policy : TimeoutPolicy) (w : WeatherRuntime) :
    assumesWorst policy w = true ↔ w.lost = true ∧ policy = .assumeStormRain := by
  simp [assumesWorst]

/-- The origin of a W cell: the assumed worst of a LOST station, or else the cause itself (R54, R57). -/
def causeOf (worst : Bool) (o : Origin) : Origin := if worst then .stationLost else o

/-- The W cell by the caps that apply: `rain` on a rain-exposed channel, `storm` on any (R57). -/
def cappedCell (worst rain storm : Bool) (rec : ChannelRecord) : Option Cell :=
  if rain && storm then
    if rec.rainCap ≤ rec.stormCap then some ⟨rec.rainCap, causeOf worst .rain, none⟩
    else some ⟨rec.stormCap, causeOf worst .storm, none⟩
  else if rain then some ⟨rec.rainCap, causeOf worst .rain, none⟩
  else if storm then some ⟨rec.stormCap, causeOf worst .storm, none⟩
  else none

theorem weatherCell_eq_cappedCell (policy : TimeoutPolicy) (w : WeatherRuntime) (rec : ChannelRecord) :
    weatherCell policy w rec
      = cappedCell (assumesWorst policy w) ((w.wet || assumesWorst policy w) && rec.rainExposed)
          (w.storm || assumesWorst policy w) rec := rfl

theorem cappedCell_eq_none_iff (worst rain storm : Bool) (rec : ChannelRecord) :
    cappedCell worst rain storm rec = none ↔ rain = false ∧ storm = false := by
  unfold cappedCell
  cases rain <;> cases storm
  · simp
  · simp
  · simp
  · simp only [Bool.and_self, if_true]
    split <;> simp

/-- The cell is that of the smaller cap, rain's where they tie (R57). -/
theorem cappedCell_eq_some {worst rain storm : Bool} {rec : ChannelRecord} {cell : Cell}
    (h : cappedCell worst rain storm rec = some cell) :
    (rain = true ∧ (storm = true → rec.rainCap ≤ rec.stormCap)
        ∧ cell = ⟨rec.rainCap, causeOf worst .rain, none⟩)
      ∨ (storm = true ∧ (rain = true → rec.stormCap < rec.rainCap)
        ∧ cell = ⟨rec.stormCap, causeOf worst .storm, none⟩) := by
  unfold cappedCell at h
  split_ifs at h with both smaller one other
  · obtain ⟨isRain, -⟩ := Bool.and_eq_true_iff.mp both
    exact .inl ⟨isRain, fun _ => smaller, (Option.some.inj h).symm⟩
  · obtain ⟨-, isStorm⟩ := Bool.and_eq_true_iff.mp both
    exact .inr ⟨isStorm, fun _ => Nat.lt_of_not_le smaller, (Option.some.inj h).symm⟩
  · exact .inl ⟨one, fun isStorm => absurd (by rw [one, isStorm]; rfl) both, (Option.some.inj h).symm⟩
  · exact .inr ⟨other, fun isRain => absurd isRain one, (Option.some.inj h).symm⟩

/-! ## The S cell (R30) -/

/-- The zone asks for the channel's S cell: the channel is in it, and it is in ALARM. -/
abbrev ZoneAsks (zones : Table ZoneRuntime 16) (rec : ChannelRecord) (z : ZoneNo) : Prop :=
  rec.zones.getLsbD z.1 = true ∧ (zones.get z).alarm = true

/-- The position a zone asks for (R30). -/
abbrev askedPosition (set : ConfigSet) (zones : Table ZoneRuntime 16) (rec : ChannelRecord) (z : ZoneNo) :
    Nat :=
  zonePosition rec.role (set.zones.get z) (zones.get z)

/-- The cell is that of the lowest zone in the list that asks for the largest position; it is absent where
none asks. -/
def IsLargestAsked (set : ConfigSet) (zones : Table ZoneRuntime 16) (rec : ChannelRecord)
    (l : List ZoneNo) : Option Cell → Prop
  | none => ∀ z ∈ l, ¬ ZoneAsks zones rec z
  | some cell => ∃ z ∈ l, ZoneAsks zones rec z
      ∧ cell = ⟨askedPosition set zones rec z, .zone z, none⟩
      ∧ ∀ y ∈ l, ZoneAsks zones rec y →
          askedPosition set zones rec y ≤ askedPosition set zones rec z
            ∧ (askedPosition set zones rec y = askedPosition set zones rec z → z ≤ y)

section Smoke

variable {set : ConfigSet} {zones : Table ZoneRuntime 16} {rec : ChannelRecord} {l : List ZoneNo}
  {best : Option Cell} {z : ZoneNo}

theorem takeZone_of_silent (silent : ¬ ZoneAsks zones rec z) : takeZone set zones rec best z = best :=
  if_neg (mt Bool.and_eq_true_iff.mp silent)

theorem takeZone_of_asks (asks : ZoneAsks zones rec z) :
    takeZone set zones rec best z
      = if ∀ c ∈ best, c.value < askedPosition set zones rec z then
          some ⟨askedPosition set zones rec z, .zone z, none⟩
        else best := by
  unfold takeZone
  rw [if_pos (Bool.and_eq_true_iff.mpr asks)]
  cases best with
  | none => simp
  | some c => simp

/-- A zone above those before it takes the cell only where it asks for more. -/
theorem IsLargestAsked.takeZone (h : IsLargestAsked set zones rec l best) (above : ∀ y ∈ l, y < z) :
    IsLargestAsked set zones rec (l ++ [z]) (takeZone set zones rec best z) := by
  have last {y : ZoneNo} (mem : y ∈ l ++ [z]) : y ∈ l ∨ y = z := by simpa using mem
  by_cases asks : ZoneAsks zones rec z
  · rw [takeZone_of_asks asks]
    cases best with
    | none =>
      rw [if_pos nofun]
      refine ⟨z, by simp, asks, rfl, fun y mem asked => ?_⟩
      obtain earlier | rfl := last mem
      · exact absurd asked (h y earlier)
      · exact ⟨le_rfl, fun _ => le_rfl⟩
    | some cell =>
      obtain ⟨x, xMem, xAsks, rfl, largest⟩ := h
      split
      next more =>
        have more : askedPosition set zones rec x < askedPosition set zones rec z := more _ rfl
        refine ⟨z, by simp, asks, rfl, fun y mem asked => ?_⟩
        obtain earlier | rfl := last mem
        · have less := (largest y earlier asked).1.trans_lt more
          exact ⟨less.le, fun same => absurd same less.ne⟩
        · exact ⟨le_rfl, fun _ => le_rfl⟩
      next notMore =>
        have notMore : askedPosition set zones rec z ≤ askedPosition set zones rec x := by
          simpa using notMore
        refine ⟨x, by simp [xMem], xAsks, rfl, fun y mem asked => ?_⟩
        obtain earlier | rfl := last mem
        · exact largest y earlier asked
        · exact ⟨notMore, fun _ => (above x xMem).le⟩
  · rw [takeZone_of_silent asks]
    cases best with
    | none =>
      intro y mem
      obtain earlier | rfl := last mem
      · exact h y earlier
      · exact asks
    | some cell =>
      obtain ⟨x, xMem, xAsks, same, largest⟩ := h
      refine ⟨x, by simp [xMem], xAsks, same, fun y mem asked => ?_⟩
      obtain earlier | rfl := last mem
      · exact largest y earlier asked
      · exact absurd asked asks

end Smoke

theorem isLargestAsked_foldl (set : ConfigSet) (zones : Table ZoneRuntime 16) (rec : ChannelRecord)
    (l : List ZoneNo) (ascending : l.Pairwise (· < ·)) :
    IsLargestAsked set zones rec l (l.foldl (takeZone set zones rec) none) := by
  induction l using List.reverseRecOn with
  | nil => exact nofun
  | append_singleton earlier z ih =>
    obtain ⟨before, -, above⟩ := List.pairwise_append.mp ascending
    rw [List.foldl_append]
    exact (ih before).takeZone fun y mem => above y mem z (List.mem_singleton.mpr rfl)

/-- The S cell is the largest position of the zones in ALARM, with the lowest such zone (R30). -/
theorem smokeCell_isLargestAsked (set : ConfigSet) (zones : Table ZoneRuntime 16) (rec : ChannelRecord) :
    IsLargestAsked set zones rec (List.finRange 16) (smokeCell set zones rec) :=
  isLargestAsked_foldl set zones rec _ (List.sortedLT_finRange 16).pairwise

/-! ## The statement -/

/-- Settles O22: the W cell by the caps that apply, the S cell by the fold over the zones, the F cell. -/
theorem producerCellsFollowRules : Obligations.ProducerCellsFollowRules := by
  refine ⟨?weather, ?smoke, fun rec => ⟨rfl, fun absent => ?_, fun v present => ?_⟩⟩
  case weather =>
    intro policy w rec worst rain storm
    have worst_iff : assumesWorst policy w = true ↔ worst := assumesWorst_iff policy w
    have rain_iff : ((w.wet || assumesWorst policy w) && rec.rainExposed) = true ↔ rain := by
      rw [Bool.and_eq_true, Bool.or_eq_true, worst_iff]
    have storm_iff : (w.storm || assumesWorst policy w) = true ↔ storm := by
      rw [Bool.or_eq_true, worst_iff]
    rw [weatherCell_eq_cappedCell]
    refine ⟨?_, fun cell present => ?_⟩
    · rw [cappedCell_eq_none_iff, ← Bool.not_eq_true, ← Bool.not_eq_true, rain_iff, storm_iff]
    · have lostCause (o : Origin) : worst → causeOf (assumesWorst policy w) o = .stationLost :=
        fun isWorst => if_pos (worst_iff.mpr isWorst)
      have ownCause (o : Origin) : ¬ worst → causeOf (assumesWorst policy w) o = o :=
        fun notWorst => if_neg (mt worst_iff.mp notWorst)
      have decided := cappedCell_eq_some present
      rw [rain_iff, storm_iff] at decided
      obtain ⟨isRain, smaller, rfl⟩ | ⟨isStorm, smaller, rfl⟩ := decided
      · exact ⟨rfl, fun _ isStorm => (min_eq_left (smaller isStorm)).symm, fun _ _ => rfl,
          fun notRain => absurd isRain notRain, lostCause _, fun notWorst _ _ => ownCause _ notWorst,
          fun _ isStorm more => absurd (more isRain) (Nat.not_lt_of_le (smaller isStorm))⟩
      · exact ⟨rfl, fun isRain _ => (min_eq_right (smaller isRain).le).symm,
          fun _ notStorm => absurd isStorm notStorm, fun _ _ => rfl, lostCause _,
          fun _ isRain more => absurd (smaller isRain) (Nat.not_lt_of_le (more isStorm)),
          fun notWorst _ _ => ownCause _ notWorst⟩
  case smoke =>
    intro set zones rec asks position
    have position_eq (z : ZoneNo) : askedPosition set zones rec z = position z := rfl
    have all (z : ZoneNo) : z ∈ List.finRange 16 := List.mem_finRange z
    have largest := smokeCell_isLargestAsked set zones rec
    cases smoke : smokeCell set zones rec with
    | none =>
      rw [smoke] at largest
      exact ⟨iff_of_true rfl fun z => largest z (all z), nofun⟩
    | some cell =>
      rw [smoke] at largest
      obtain ⟨z, -, zAsks, same, most⟩ := largest
      simp only [position_eq] at same most
      refine ⟨iff_of_false nofun fun silent => silent z zAsks, ?_⟩
      rintro _ ⟨⟩
      exact ⟨z, zAsks, same, fun y asked => (most y (all y) asked).1,
        fun y asked => (most y (all y) asked).2⟩
  · rw [fallbackCell, if_pos rfl, absent]; rfl
  · rw [fallbackCell, if_pos rfl, present]; rfl

end Sys2Proof.Machine

/-! SUPPORT. What follows the fold of a composition (R13 to R17): the wind class by the distance of two
sectors, trim, derate and the travel clamp. -/

namespace Sys2Proof.Machine

/-! ## The wind class (R54, R56) -/

/-- The distance of two sectors is the shorter way round. -/
theorem sectorDistance_eq (a b : Sector) :
    (sectorDistance a b : Int) = min |(a.1 : Int) - b.1| (16 - |(a.1 : Int) - b.1|) := by
  obtain ⟨a, ha⟩ := a
  obtain ⟨b, hb⟩ := b
  dsimp only [sectorDistance]
  rw [abs_eq_max_neg]
  omega

theorem sectorDistance_le (a b : Sector) : sectorDistance a b ≤ 8 := by
  dsimp only [sectorDistance]
  omega

theorem classOfDistance_windward {d : Nat} (h : d ≤ 2) : classOfDistance d = .windward := if_pos h

theorem classOfDistance_cross {d : Nat} (low : 3 ≤ d) (high : d ≤ 5) : classOfDistance d = .cross := by
  rw [classOfDistance, if_neg (by omega), if_pos high]

theorem classOfDistance_leeward {d : Nat} (h : 6 ≤ d) : classOfDistance d = .leeward := by
  rw [classOfDistance, if_neg (by omega), if_neg (by omega)]

section Class

variable {policy : TimeoutPolicy} {w : WeatherRuntime} (f : Sector)

theorem windClass_of_unknown (unknown : w.direction = none) :
    windClass policy w (.sector f) = .neutral := by
  simp [windClass, unknown]

theorem windClass_of_worst (worst : assumesWorst policy w = true) :
    windClass policy w (.sector f) = .neutral := by
  unfold windClass
  split <;> [exact if_pos worst; rfl]

theorem windClass_of_known {x : Sector} (known : w.direction = some x)
    (heard : ¬ assumesWorst policy w = true) :
    windClass policy w (.sector f) = classOfDistance (sectorDistance x f) := by
  simp [windClass, known, heard]

end Class

/-! ## Trim, derate and travel clamp (R14 to R16) -/

theorem trimApplies_iff (t : LayerTable) (r : WeatherRecord) (cls : WindClass) (speed : Nat)
    (x : Running) :
    trimApplies t r cls speed x = true
      ↔ (t.get x.layer).trim = true ∧ 0 < x.value ∧ cls ≠ .neutral ∧ r.trimThreshold ≤ speed := by
  simp [trimApplies, and_assoc]

theorem derateApplies_iff (t : LayerTable) (r : WeatherRecord) (cls : WindClass) (speed : Nat)
    (l : Layer) :
    derateApplies t r cls speed l = true
      ↔ (t.get l).derate = true ∧ cls = .windward ∧ r.derateThreshold ≤ speed := by
  simp [derateApplies, and_assoc]

theorem saturate_eq (i : Int) : (saturate i : Int) = max 0 (min 1000 i) :=
  Int.toNat_of_nonneg (le_max_left 0 _)

theorem clampTravel_eq (rec : ChannelRecord) (v : Nat) (range : rec.travelMin ≤ rec.travelMax) :
    clampTravel rec v = max rec.travelMin (min rec.travelMax v) := by
  unfold clampTravel
  split_ifs <;> omega

/-- Settles O39: the class by its distance, and the result of a composition field by field. -/
theorem windTrimDerateAndClampApply : Obligations.WindTrimDerateAndClampApply := by
  refine ⟨fun policy w => ⟨rfl, fun f => ⟨windClass_of_unknown f, fun lost assume => ?worst,
    fun x known heard => ?known⟩⟩, ?result⟩
  case worst => exact windClass_of_worst f ((assumesWorst_iff policy w).mpr ⟨lost, assume⟩)
  case known =>
    rw [← assumesWorst_iff] at heard
    rw [windClass_of_known f known heard]
    exact ⟨sectorDistance x f, sectorDistance_eq x f, sectorDistance_le x f, classOfDistance_windward,
      classOfDistance_cross, classOfDistance_leeward⟩
  case result =>
    intro set w rec st range x cls r trim derate added
    have trims : trimApplies set.layers set.weather cls w.speed x = true ↔ trim := trimApplies_iff ..
    have derates : derateApplies set.layers set.weather cls w.speed x.layer = true ↔ derate :=
      derateApplies_iff ..
    have added_eq : trimOf set.weather cls = added := rfl
    let trimmed := if trimApplies set.layers set.weather cls w.speed x then
      saturate (x.value + trimOf set.weather cls) else x.value
    let derated := if derateApplies set.layers set.weather cls w.speed x.layer then trimmed / 2
      else trimmed
    refine ⟨trimmed, derated, fun h => ?_, fun h => if_neg (mt trims.mp h),
      fun h => if_pos (derates.mpr h), fun h => if_neg (mt derates.mp h),
      clampTravel_eq rec derated range, rfl, rfl, trims, derates, decide_eq_true_iff⟩
    have saturated : trimmed = saturate (x.value + trimOf set.weather cls) := if_pos (trims.mpr h)
    rw [saturated, saturate_eq, added_eq]

end Sys2Proof.Machine

/-! SUPPORT. Comfort groups (chapter 4): GROUP_SET and GROUP_RELEASE are one event, in which a C cell is
placed on chosen channels, with the channels and the cell chosen differently. -/

namespace Sys2Proof.Machine

/-! ## C cells placed on chosen channels (R64, R66) -/

/-- A C cell placed on the channels chosen by their number and the C cell they have. -/
abbrev State.placeComfort (chosen : ChannelNo → Option Cell → Bool) (cell : Option Cell) (s : State) :
    State :=
  s.mapChannels fun n rec c => if chosen n c.stack.c then c.place rec .c cell else c

/-- The event in which a frame is heard and a C cell is placed on chosen channels. -/
abbrev State.comfortEvent (s : State) (src : Nat) (chosen : ChannelNo → Option Cell → Bool)
    (cell : Option Cell) : State :=
  ((s.hear src).placeComfort chosen cell).settle s

/-- Beside the channels, the event changes what supervision changes. -/
theorem State.comfortEvent_eq (s : State) (src : Nat) (chosen : ChannelNo → Option Cell → Bool)
    (cell : Option Cell) :
    s.comfortEvent src chosen cell
      = (s.supervise src).setChannels (s.comfortEvent src chosen cell).channels := rfl

/-- Supervision touches no cell but F. -/
@[simp] theorem State.heardStack_c (s : State) (src : Nat) (st : Stack) :
    (s.heardStack src st).c = st.c := by
  unfold State.heardStack
  split <;> rfl

/-- In that event the channels in use have the F cell supervision leaves them, the chosen ones among them
the C cell, and each is composed once; the others are as they were. -/
theorem State.comfortEvent_channel (s : State) (src : Nat) (chosen : ChannelNo → Option Cell → Bool)
    (cell : Option Cell) (n : ChannelNo) :
    let c := s.channels.get n
    let heard := s.heardStack src c.stack
    if (s.record n).inUse = true then
      (s.comfortEvent src chosen cell).channels.get n
        = ({ c with
            stack := if chosen n c.stack.c = true then { heard with c := cell } else heard }).settle
            s.ctx (s.record n) false c.stack
    else (s.comfortEvent src chosen cell).channels.get n = c := by
  intro c heard
  have record : (s.hear src).record n = s.record n := State.record_of_store _ _ _ (by simp)
  rw [State.settle_channel _ _ _ (by simp) (by simp) (by simp) (by simp), State.mapChannels_get, record,
    State.hear_channel]
  cases used : (s.record n).inUse
  · simp only [Bool.false_eq_true, if_false]
    rw [Channel.settle_unused _ _ _ _ _ used, Channel.place_unused _ _ _ _ used]
    exact ite_self c
  · simp only [if_true, State.heardStack_c]
    split
    · rw [Channel.place_used _ _ _ _ used]
      rfl
    · rfl

/-! ## The fields of group frames (R63) -/

theorem groupIndex_val (g : GroupNo) : groupIndex g.1 = some g := dif_pos g.2

theorem carriedMode_of_listed {mode : Nat} {m : Option Mode}
    (listed : (mode = 0 ∧ m = some .override) ∨ (mode = 1 ∧ m = some .cap)
      ∨ (mode = 2 ∧ m = some .floor) ∨ (mode = 255 ∧ m = none)) :
    carriedMode mode = some m := by
  obtain ⟨rfl, rfl⟩ | ⟨rfl, rfl⟩ | ⟨rfl, rfl⟩ | ⟨rfl, rfl⟩ := listed <;> rfl

theorem comfortOf_iff (g : GroupNo) (cell : Option Cell) :
    comfortOf g cell = true ↔ cell.map Cell.origin = some (Origin.group g) := by
  simp [comfortOf, Option.any_eq_true]

/-! ## GROUP_SET and GROUP_RELEASE (R64, R66) -/

/-- The C cell of every member is written (R64). -/
theorem actGroupSet_run (s : State) (src position mode : Nat) (g : GroupNo) (m : Option Mode)
    (carried : carriedMode mode = some m) :
    (⟨true, actGroupSet g.1 position mode⟩ : Owner).run src s
      = Acted.ok []
          (s.comfortEvent src (fun n _ => (s.store.active.groups.get g).getLsbD n.1)
            (some ⟨min position 1000, .group g, m⟩)) := by
  simp [Owner.run, actGroupSet, groupIndex_val, carried, Acted.ok, Channel.setComfort]

/-- The C cell of every member whose cell is the group's own is removed (R66). -/
theorem actGroupRelease_run (s : State) (src : Nat) (g : GroupNo) :
    (⟨true, actGroupRelease g.1⟩ : Owner).run src s
      = Acted.ok []
          (s.comfortEvent src
            (fun n cell => (s.store.active.groups.get g).getLsbD n.1 && comfortOf g cell) none) := by
  simp only [Owner.run, actGroupRelease, groupIndex_val, Acted.ok, if_true, State.hear_store]

/-- Settles O23: both frames are comfort events, of the group's members and of those that hold the group's
own cell. -/
theorem groupFramesWriteMembers : Obligations.GroupFramesWriteMembers := by
  constructor
  case left =>
    intro rx g position mode a m s ⟨address, notLooped⟩ here listed s1
    have acts := actGroupSet_run s rx.src position mode g m (carriedMode_of_listed listed)
    have received := s.receive_of_acts rx.port (groupSetFrame rx g.1 position mode) _ a _ address
      notLooped here (groupSetFrame_isBroadcast ..) acts
    rw [State.comfortEvent_eq] at received
    exact ⟨_, congrArg Host.Outcome.next received, s.comfortEvent_channel rx.src _ _⟩
  case right =>
    intro rx g a s ⟨address, notLooped⟩ here s1
    have received := s.receive_of_acts rx.port (groupReleaseFrame rx g.1) _ a _ address
      notLooped here (groupReleaseFrame_isBroadcast ..) (actGroupRelease_run s rx.src g)
    rw [State.comfortEvent_eq] at received
    refine ⟨_, congrArg Host.Outcome.next received, fun n => ?_⟩
    simpa only [Bool.and_eq_true, comfortOf_iff] using s.comfortEvent_channel rx.src
      (fun n cell => (s.store.active.groups.get g).getLsbD n.1 && comfortOf g cell) none n

end Sys2Proof.Machine

/-! SUPPORT. The Motion Supervisor's engine, function by function (chapter 5): the scales, the move test and
the retarget rule by what they decide, the detectors, the fault actions and the judgement of an answer, with
the statements about them. -/

namespace Sys2Proof.Machine

/-! ## The test of R77 (R75) -/

theorem apart_eq_abs (a b : Nat) : (apart a b : Int) = |(a : Int) - b| := by
  rw [apart, abs_eq_max_neg]
  omega

/-- A move is wanted where the target is away from the position in per-mille and in millimetres. -/
abbrev MoveWanted (rec : ChannelRecord) (target mm : Nat) : Prop :=
  (rec.deadband : Int) < |(target : Int) - perMille rec mm| ∧ setpoint rec target ≠ mm

theorem atTarget_iff (rec : ChannelRecord) (target mm : Nat) :
    atTarget rec target mm = true
      ↔ |(target : Int) - perMille rec mm| ≤ rec.deadband ∨ setpoint rec target = mm := by
  rw [atTarget, Bool.or_eq_true, decide_eq_true_iff, decide_eq_true_iff, ← apart_eq_abs, Int.ofNat_le]

theorem not_atTarget_iff (rec : ChannelRecord) (target mm : Nat) :
    ¬ atTarget rec target mm = true ↔ MoveWanted rec target mm := by
  rw [atTarget_iff, not_or, not_le]

/-! ## The move test and the retarget rule (R77, R81) -/

section Decisions

variable {ctx : Ctx} {rec : ChannelRecord} {target mm : Nat} {e : Engine}

theorem Engine.moveTest_of_not_wanted (position : e.position = some mm)
    (h : ¬ MoveWanted rec target mm) : e.moveTest ctx rec target = e.rest .idle := by
  have reached : atTarget rec target mm = true := not_not.mp (mt (not_atTarget_iff ..).mp h)
  simp [Engine.moveTest, position, reached]

theorem Engine.moveTest_of_supplied (position : e.position = some mm) (h : MoveWanted rec target mm)
    (supply : ctx.supplyOk = true) :
    e.moveTest ctx rec target = e.move ctx rec (directionTo target (perMille rec mm)) mm := by
  simp [Engine.moveTest, position, (not_atTarget_iff ..).mpr h, supply]

theorem Engine.moveTest_of_unsupplied (position : e.position = some mm) (h : MoveWanted rec target mm)
    (supply : ctx.supplyOk = false) : e.moveTest ctx rec target = e.hold := by
  simp [Engine.moveTest, position, (not_atTarget_iff ..).mpr h, supply]

theorem Engine.retarget_of_ahead (position : e.position = some mm) (h : MoveWanted rec target mm)
    (ahead : e.direction = some (directionTo target (perMille rec mm))) :
    e.retarget ctx rec target = { e with reference := referenceAt ctx rec mm } := by
  simp [Engine.retarget, position, (not_atTarget_iff ..).mpr h, ahead]

theorem Engine.retarget_of_not_ahead (position : e.position = some mm)
    (h : ¬ (MoveWanted rec target mm
      ∧ e.direction = some (directionTo target (perMille rec mm)))) :
    e.retarget ctx rec target = e.enterDwell ctx.now := by
  unfold Engine.retarget
  rw [position]
  dsimp only
  split
  · rfl
  next wanted => exact if_neg fun ahead => h ⟨(not_atTarget_iff ..).mp wanted, ahead⟩

end Decisions

/-- What the move test keeps, whatever it decides (R77). -/
theorem Engine.moveTest_frame (ctx : Ctx) (rec : ChannelRecord) (target : Nat) (e : Engine) :
    let t := e.moveTest ctx rec target
    t.timer = none ∧ t.position = e.position ∧ t.retryCount = e.retryCount ∧ t.lastFault = e.lastFault
      ∧ t.lampOverride = e.lampOverride ∧ t.reportedLamp = e.reportedLamp := by
  unfold Engine.moveTest
  split
  · exact ⟨rfl, rfl, rfl, rfl, rfl, rfl⟩
  · split_ifs <;> exact ⟨rfl, rfl, rfl, rfl, rfl, rfl⟩

/-- A channel with a result is tested against its target. -/
theorem Channel.moveTest_of_result (ctx : Ctx) (rec : ChannelRecord) {c : Channel} {r : Result}
    (result : c.result = some r) :
    c.moveTest ctx rec = { c with engine := c.engine.moveTest ctx rec r.target } := by
  unfold Channel.moveTest
  split
  next r' result' =>
    have same : r' = r := Option.some.inj (result'.symm.trans result)
    exact same ▸ rfl
  next absent => exact absurd (absent.symm.trans result) nofun

/-- Settles O41: the two expiries are due, and the test and the retarget rule are taken decision by
decision. -/
theorem expiriesMoveTestAndRetarget : Obligations.ExpiriesMoveTestAndRetarget := by
  refine ⟨?expiries, fun ctx rec target mm e position => ?test,
    fun ctx rec target mm d e moving position direction => ?retarget⟩
  case expiries =>
    intro n since r s result c tested
    have tests : (s.mapChannel n fun rec c => c.moveTest s.ctx rec) = tested :=
      congrArg (fun d => s.setChannels (s.channels.set n d)) (Channel.moveTest_of_result _ _ result)
    refine ⟨fun dwells timer held => ?_, fun waits timer held => ?_⟩
    · have due : c.engine.dwellDue s.now (s.record n) = true := by simp [Engine.dwellDue, dwells, timer, held]
      exact (if_pos due).trans (congrArg Host.Outcome.next tests)
    · have due : c.engine.retryDue s.now (s.record n) = true := by simp [Engine.retryDue, waits, timer, held]
      exact (if_pos due).trans (congrArg Host.Outcome.next tests)
  case test =>
    intro perMille setpoint wanted t
    refine ⟨fun still => ?_, fun moves supply => ?_, fun moves supply => ?_,
      e.moveTest_frame ctx rec target⟩
    · have idle : t = e.rest .idle := Engine.moveTest_of_not_wanted position still
      rw [idle]
      exact ⟨rfl, rfl, rfl⟩
    · have starts : t = e.move ctx rec (directionTo target perMille) mm :=
        Engine.moveTest_of_supplied position moves supply
      rw [starts]
      exact ⟨rfl, rfl, fun enabled => if_pos enabled, rfl, rfl, rfl, rfl⟩
    · have holds : t = e.hold := Engine.moveTest_of_unsupplied position moves supply
      rw [holds]
      exact ⟨rfl, rfl, rfl⟩
  case retarget =>
    intro perMille setpoint wanted ahead t
    have ahead_iff : e.direction = some (directionTo target perMille) ↔ ahead := by
      rw [direction, Option.some_inj]
      rfl
    refine ⟨fun moves goesOn => Engine.retarget_of_ahead position moves (ahead_iff.mpr goesOn),
      fun turns => ?_⟩
    have dwells : t = e.enterDwell ctx.now :=
      Engine.retarget_of_not_ahead position fun h => turns ⟨h.1, ahead_iff.mp h.2⟩
    rw [dwells]
    exact ⟨rfl, direction, rfl, rfl, rfl, rfl, rfl, rfl⟩

/-! ## Fault actions (R87, R88, R91) -/

section Faults

variable {now : Nat} {rec : ChannelRecord} {layer : Option Layer} {d : Detector} {e : Engine}

theorem Engine.fault_of_reportOnly (action : rec.faultAction = .reportOnly) :
    e.fault now rec layer d = { e with lastFault := some d, armed := e.armed.set false d } := by
  simp [Engine.fault, action]

/-- The engine that a counted fault leaves waiting for a retry. -/
abbrev Engine.faultWait (now : Nat) (d : Detector) (e : Engine) : Engine :=
  { ({ e with lastFault := some d }).wait now with stopOwed := true, retryCount := risen e.retryCount }

theorem Engine.fault_of_smoke (action : rec.faultAction ≠ .reportOnly) (smoke : layer = some .s) :
    e.fault now rec layer d = e.faultWait now d := by
  cases h : rec.faultAction with
  | latch => simp [Engine.fault, h, smoke]
  | retry => simp [Engine.fault, h, smoke]
  | reportOnly => exact absurd h action

/-- The engine that a fault leaves LATCHED, with a count. -/
abbrev Engine.faultLatch (d : Detector) (count : Nat) (e : Engine) : Engine :=
  { ({ e with lastFault := some d }).rest .latched with stopOwed := true, retryCount := count }

theorem Engine.fault_of_latch (action : rec.faultAction = .latch) (clear : layer ≠ some .s) :
    e.fault now rec layer d = e.faultLatch d e.retryCount := by
  simp [Engine.fault, action, clear, Engine.rest]

theorem Engine.fault_of_retry (action : rec.faultAction = .retry)
    (below : limitReached rec (risen e.retryCount) = false) :
    e.fault now rec layer d = e.faultWait now d := by
  simp [Engine.fault, action, below]

theorem Engine.fault_of_limit (action : rec.faultAction = .retry) (clear : layer ≠ some .s)
    (limit : limitReached rec (risen e.retryCount) = true) :
    e.fault now rec layer d = e.faultLatch d (risen e.retryCount) := by
  simp [Engine.fault, action, clear, limit]

end Faults

/-- Everything that a fault can come to. -/
theorem Engine.fault_cases (now : Nat) (rec : ChannelRecord) (layer : Option Layer) (d : Detector)
    (e : Engine) :
    (rec.faultAction = .reportOnly
        ∧ e.fault now rec layer d = { e with lastFault := some d, armed := e.armed.set false d })
      ∨ e.fault now rec layer d = e.faultWait now d
      ∨ (layer ≠ some .s ∧ ∃ count, (count = e.retryCount ∨ count = risen e.retryCount)
          ∧ e.fault now rec layer d = e.faultLatch d count) := by
  cases action : rec.faultAction with
  | reportOnly => exact .inl ⟨rfl, Engine.fault_of_reportOnly action⟩
  | latch =>
    by_cases smoke : layer = some .s
    · exact .inr (.inl (Engine.fault_of_smoke (by simp [action]) smoke))
    · exact .inr (.inr ⟨smoke, _, .inl rfl, Engine.fault_of_latch action smoke⟩)
  | retry =>
    cases limit : limitReached rec (risen e.retryCount)
    · exact .inr (.inl (Engine.fault_of_retry action limit))
    · by_cases smoke : layer = some .s
      · exact .inr (.inl (Engine.fault_of_smoke (by simp [action]) smoke))
      · exact .inr (.inr ⟨smoke, _, .inr rfl, Engine.fault_of_limit action smoke limit⟩)

theorem DetectorMarks.get_set (m : DetectorMarks) (v : Bool) (d x : Detector) :
    (m.set v d).get x = if x = d then v else m.get x := by
  cases d <;> cases x <;> rfl

/-- Settles O44, action by action. -/
theorem faultActionsFollowConfiguration : Obligations.FaultActionsFollowConfiguration := by
  intro now rec layer d e bounded t count
  refine ⟨?detector, fun report => ?report, fun latch clear => ?latch, fun acts smoke => ?smoke,
    fun retry clear below => ?retry, fun retry clear positive reached => ?limit, fun acts => ?owes⟩
  case detector =>
    obtain ⟨-, h⟩ | h | ⟨-, _, -, h⟩ := e.fault_cases now rec layer d <;> exact congrArg Engine.lastFault h
  case report =>
    rw [show t = _ from Engine.fault_of_reportOnly report]
    exact ⟨rfl, rfl, rfl, by simp [DetectorMarks.get_set],
      fun x other => by simp [DetectorMarks.get_set, other]⟩
  case latch =>
    rw [show t = _ from Engine.fault_of_latch latch clear]
    exact ⟨rfl, rfl⟩
  case smoke =>
    rw [show t = _ from Engine.fault_of_smoke acts smoke]
    exact ⟨rfl, rfl, rfl⟩
  case retry =>
    have free : limitReached rec (risen e.retryCount) = false := by
      refine (Bool.not_eq_true _).mp fun limit => ?_
      obtain ⟨positive, reached⟩ := (limitReached_iff _ _).mp limit
      have : rec.retryLimit ≤ count := reached
      omega
    rw [show t = _ from Engine.fault_of_retry retry free]
    exact ⟨rfl, rfl, rfl⟩
  case limit =>
    have limit : limitReached rec (risen e.retryCount) = true :=
      (limitReached_iff _ _).mpr ⟨positive, reached⟩
    rw [show t = _ from Engine.fault_of_limit retry clear limit]
    exact ⟨rfl, rfl⟩
  case owes =>
    obtain ⟨reports, -⟩ | h | ⟨-, _, -, h⟩ := e.fault_cases now rec layer d
    · exact absurd reports acts
    · rw [show t = _ from h]; exact ⟨rfl, rfl⟩
    · rw [show t = _ from h]; exact ⟨rfl, rfl⟩

/-! ## The detectors (R83 to R87) -/

section Detectors

variable (now : Nat) (rec : ChannelRecord) (a : Answer) (e : Engine)

theorem evalDetectors_of_disabled {d : Detector} (rest : List Detector)
    (disabled : rec.detectors.get d = false) :
    evalDetectors now rec a (d :: rest) e = evalDetectors now rec a rest e := by
  simp [evalDetectors, disabled]

theorem evalDetectors_of_fired {d : Detector} (rest : List Detector)
    (enabled : rec.detectors.get d = true) (fired : (evalDetector now rec a d e).fired = true) :
    evalDetectors now rec a (d :: rest) e = ((evalDetector now rec a d e).engine, some d) := by
  simp [evalDetectors, enabled, fired]

theorem evalDetectors_of_quiet {d : Detector} (rest : List Detector)
    (enabled : rec.detectors.get d = true) (quiet : (evalDetector now rec a d e).fired = false) :
    evalDetectors now rec a (d :: rest) e
      = evalDetectors now rec a rest (evalDetector now rec a d e).engine := by
  simp [evalDetectors, enabled, quiet]

/-- A reference that the answer's travel has not left. -/
theorem evalNoProgress_of_short {r : ProgressReference} (reference : e.reference = some r)
    (short : |(a.position : Int) - r.position| < rec.progressMm) :
    evalNoProgress now rec a e
      = ⟨e, e.armed.noProgress && decide (rec.progressWindowMs ≤ now - r.time)⟩ := by
  rw [← apart_eq_abs, Int.ofNat_lt] at short
  simp [evalNoProgress, reference, Nat.not_le_of_lt short]

theorem evalNoProgress_of_travelled {r : ProgressReference} (reference : e.reference = some r)
    (far : (rec.progressMm : Int) ≤ |(a.position : Int) - r.position|) :
    evalNoProgress now rec a e
      = ⟨{ e with
          reference := some ⟨a.position, now⟩
          armed := { e.armed with noProgress := true } }, false⟩ := by
  rw [← apart_eq_abs, Int.ofNat_le] at far
  simp [evalNoProgress, reference, far, DetectorMarks.set]

theorem evalNoProgress_of_none (reference : e.reference = none) :
    evalNoProgress now rec a e = ⟨e, false⟩
      ∨ evalNoProgress now rec a e = ⟨{ e with reference := some ⟨a.position, now⟩ }, false⟩ := by
  unfold evalNoProgress
  rw [reference]
  dsimp only
  split
  · exact .inr rfl
  · exact .inl rfl

end Detectors

/-- Settles O43: the order of the evaluation, then detector by detector. -/
theorem detectorsFireInOrder : Obligations.DetectorsFireInOrder := by
  intro now rec a e flagged
  have flagged_iff : (a.overtemperature || a.driveSupplyFault) = true ↔ flagged := Bool.or_eq_true_iff
  refine ⟨rfl, fun d rest => ⟨evalDetectors_of_disabled now rec a e rest,
      evalDetectors_of_fired now rec a e rest, evalDetectors_of_quiet now rec a e rest⟩,
    fun flag => ?flag, fun noFlag => ?noFlag, fun high => ⟨fun disarmed => ?_, fun armed start => ?_,
      fun armed since runs => ?_⟩, fun low => ?_, fun low => ⟨fun disarmed => ?_, fun armed start => ?_,
      fun armed since runs => ?_⟩, fun high => ?_,
    fun r reference => ⟨evalNoProgress_of_travelled now rec a e reference,
      evalNoProgress_of_short now rec a e reference⟩, evalNoProgress_of_none now rec a e⟩
  case flag => exact if_pos (flagged_iff.mpr flag)
  case noFlag => exact if_neg (mt flagged_iff.mp noFlag)
  · simp [evalDetector, evalOvercurrent, high, disarmed]
  · simp [evalDetector, evalOvercurrent, high, armed, start]
  · simp [evalDetector, evalOvercurrent, high, armed, runs]
  · exact if_neg (Nat.not_le_of_lt low)
  · simp [evalDetector, evalNoLoad, low, disarmed]
  · simp [evalDetector, evalNoLoad, low, armed, start]
  · simp [evalDetector, evalNoLoad, low, armed, runs]
  · exact if_neg (Nat.not_lt_of_le high)

/-! ## The judgement of an answer (R80, R82, R89, R90, R95) -/

theorem endSwitch_iff (a : Answer) (d : Option Direction) :
    endSwitch a d = true
      ↔ (d = some .opening ∧ a.openEnd = true) ∨ (d = some .closing ∧ a.closedEnd = true) := by
  cases d with
  | none => simp [endSwitch]
  | some d => cases d <;> simp [endSwitch]

section Detect

variable {now : Nat} {rec : ChannelRecord} {a : Answer} {e e' : Engine}

theorem Engine.detect_of_quiet (n : ChannelNo) (layer : Option Layer)
    (quiet : evalDetectors now rec a (detectorsIn e.state) e = (e', none)) :
    e.detect now n rec layer a = ⟨e', none⟩ := by
  simp [Engine.detect, quiet]

theorem Engine.detect_of_fired (n : ChannelNo) (layer : Option Layer) {d : Detector}
    (fired : evalDetectors now rec a (detectorsIn e.state) e = (e', some d)) :
    e.detect now n rec layer a = ⟨e'.fault now rec layer d, some (.fault n d)⟩ := by
  simp [Engine.detect, fired]

end Detect

/-- The end of a move, at its target or at the end switch (R80). -/
abbrev Engine.arrive (a : Answer) (e : Engine) : Engine :=
  { (e.record a).rest .idle with retryCount := 0 }

section Judge

variable {now : Nat} {n : ChannelNo} {rec : ChannelRecord} {r : Result} {a : Answer} {e : Engine}

theorem Engine.judge_of_reached (moving : e.state = .moving) (stopped : a.running = false)
    (near : atTarget rec r.target a.position = true) :
    e.judge now n rec (some r) a
      = ⟨e.arrive a, if rec.reportReached then some (.reached n r.target) else none⟩ := by
  simp [Engine.judge, moving, stopped, near]

theorem Engine.judge_of_ended (moving : e.state = .moving) (stopped : a.running = false)
    (away : atTarget rec r.target a.position = false) (ended : endSwitch a e.direction = true) :
    e.judge now n rec (some r) a = ⟨e.arrive a, none⟩ := by
  simp [Engine.judge, moving, stopped, away, ended]

theorem Engine.judge_of_underWay (moving : e.state = .moving)
    (goesOn : a.running = true
      ∨ (atTarget rec r.target a.position = false ∧ endSwitch a e.direction = false)) :
    e.judge now n rec (some r) a = (e.record a).detect now n rec (some r.layer) a := by
  obtain running | ⟨away, noEnd⟩ := goesOn
  · simp [Engine.judge, moving, running]
  · simp [Engine.judge, moving, away, noEnd]

theorem Engine.judge_of_dwell (dwells : e.state = .dwell) (result : Option Result) :
    e.judge now n rec result a = (e.record a).detect now n rec (result.map (·.layer)) a := by
  simp [Engine.judge, dwells]

theorem Engine.judge_of_other (result : Option Result) (notMoving : e.state ≠ .moving ∨ result = none)
    (notDwell : e.state ≠ .dwell) : e.judge now n rec result a = ⟨e.record a, none⟩ := by
  unfold Engine.judge
  split
  next moving _ => simp_all
  next dwells => exact absurd dwells notDwell
  next => rfl

end Judge

/-- Settles O42, by the state of the engine and, in MOVING, by what the drive reports. -/
theorem answerIsJudged : Obligations.AnswerIsJudged := by
  intro now n rec r a e j recorded arrived position near ended evaluated
  have near_iff : atTarget rec r.target a.position = true ↔ near := atTarget_iff ..
  have ended_iff : endSwitch a e.direction = true ↔ ended := endSwitch_iff ..
  have detects {detectors : List Detector} (here : detectorsIn e.state = detectors)
      (judged : j = (e.record a).detect now n rec (some r.layer) a) : evaluated detectors := by
    intro e' found ran
    rw [← here] at ran
    rw [judged]
    exact ⟨fun quiet => Engine.detect_of_quiet n _ (quiet ▸ ran),
      fun d fired => Engine.detect_of_fired n _ (fired ▸ ran)⟩
  refine ⟨fun moving stopped isNear => ?_, fun moving stopped away atEnd => ?_,
    fun moving goesOn => ?_, fun dwells => ?_,
    fun notMoving notDwell => Engine.judge_of_other _ (.inl notMoving) notDwell⟩
  · exact Engine.judge_of_reached moving stopped (near_iff.mpr isNear)
  · exact Engine.judge_of_ended moving stopped ((Bool.not_eq_true _).mp (mt near_iff.mp away))
      (ended_iff.mpr atEnd)
  · refine detects (by rw [moving]; rfl) (Engine.judge_of_underWay moving ?_)
    rwa [← Bool.not_eq_true (atTarget ..), ← Bool.not_eq_true (endSwitch ..), near_iff, ended_iff]
  · exact detects (by rw [dwells]; rfl) (Engine.judge_of_dwell dwells (some r))

end Sys2Proof.Machine

/-! SUPPORT. LAMP_SET and CHANNEL_CLEAR (R93, R98), and the engine of a surviving binding across a commit
(R99): the four steps of the commit, each by what it finds. -/

namespace Sys2Proof.Machine

/-! ## Frames whose owner writes no demand cell (R152, R153) -/

/-- A frame addressed to the node whose owner reports no line error and asks for no reset. -/
theorem State.receive_of_answers (s : State) (p : TrunkPort) (f : Frame) (act : State → Acted) (a : Nat)
    (address : s.trunk.address = some a) (notLooped : f.src ≠ a) (here : f.dst = a) {t : State}
    {status : Status} {body : List Byte}
    (acts : act (s.supervise f.src) = ⟨t, none, status, body, false⟩) :
    s.receive p f (some ⟨false, act⟩) = t.reply p f a status body false := by
  rw [s.receive_addressed p f _ a address notLooped here]
  simp [State.consume, Owner.run, acts, State.logOption]

theorem index16_val (n : Fin 16) : index16 n.1 = some n := dif_pos n.2

theorem index16_of_large {n : Nat} (h : 16 ≤ n) : index16 n = none := dif_neg (Nat.not_lt_of_le h)

/-! ## LAMP_SET (R98) -/

theorem overrideOf_of_listed {value : Nat} {lamp : Option Lamp}
    (listed : (value = 0 ∧ lamp = some .off) ∨ (value = 1 ∧ lamp = some .on)
      ∨ (value = 2 ∧ lamp = some .blink) ∨ (value = 3 ∧ lamp = none)) :
    overrideOf value = some lamp := by
  obtain ⟨rfl, rfl⟩ | ⟨rfl, rfl⟩ | ⟨rfl, rfl⟩ | ⟨rfl, rfl⟩ := listed <;> rfl

theorem overrideOf_of_unlisted {value : Nat} (h : 4 ≤ value) : overrideOf value = none := by
  unfold overrideOf lampOf
  split
  · omega
  · split <;> [omega; omega; omega; rfl]

theorem actLampSet_of_listed (s : State) (n : ChannelNo) {value : Nat} {lamp : Option Lamp}
    (listed : overrideOf value = some lamp) :
    actLampSet n.1 value s
      = Acted.ok []
          (s.setChannels (s.channels.set n
            { s.channels.get n with
              engine := { (s.channels.get n).engine with lampOverride := lamp } })) := by
  simp only [actLampSet, index16_val, listed]
  rfl

theorem actLampSet_of_unlisted (s : State) {channel value : Nat} (h : 16 ≤ channel ∨ 4 ≤ value) :
    actLampSet channel value s = Acted.refuse .badValue [] s := by
  obtain high | high := h
  · simp [actLampSet, index16_of_large high]
  · simp [actLampSet, overrideOf_of_unlisted high]

/-! ## CHANNEL_CLEAR (R93) -/

/-- The channel byte names the channel: by its number, or as ALL. -/
abbrev NamesChannel (channel : Nat) (n : ChannelNo) : Prop := channel = n.1 ∨ channel = 255

/-- A CHANNEL_CLEAR that is not refused clears the channels it names and no others. -/
theorem actChannelClear_of_listed (s : State) {channel : Nat} (h : channel < 16 ∨ channel = 255) :
    ∃ channels, actChannelClear channel s = Acted.ok [] (s.setChannels channels)
      ∧ ∀ n, channels.get n
          = if NamesChannel channel n then (s.channels.get n).clear s.ctx (s.record n)
            else s.channels.get n := by
  obtain small | rfl := h
  · refine ⟨_, by rw [actChannelClear, if_neg (by omega), index16, dif_pos small]; rfl, fun n => ?_⟩
    have named : NamesChannel channel n ↔ n = ⟨channel, small⟩ := by
      rw [Fin.ext_iff, NamesChannel]
      dsimp only
      omega
    rw [Table.get_modify]
    exact (if_congr named rfl rfl).symm ▸ by split <;> [(next same => rw [same]); rfl]
  · exact ⟨_, rfl, fun n => by rw [Table.get_mapIdx, if_pos (.inr rfl)]⟩

theorem actChannelClear_of_unlisted (s : State) {channel : Nat} (h : 16 ≤ channel ∧ channel ≠ 255) :
    actChannelClear channel s = Acted.refuse .badValue [] s := by
  simp [actChannelClear, h.2, index16_of_large h.1]

theorem Channel.clear_of_not_latched (ctx : Ctx) (rec : ChannelRecord) {c : Channel}
    (h : c.engine.state ≠ .latched) : c.clear ctx rec = c := if_neg h

theorem Channel.clear_of_latched (ctx : Ctx) (rec : ChannelRecord) {c : Channel} {r : Result}
    (latched : c.engine.state = .latched) (result : c.result = some r) :
    c.clear ctx rec
      = { c with engine := Engine.moveTest ctx rec r.target { c.engine with retryCount := 0 } } :=
  (if_pos latched).trans (Channel.moveTest_of_result ctx rec result)

/-- Settles O40: each owner refuses or acts as its fields are listed or not. -/
theorem lampSetAndChannelClearAct : Obligations.LampSetAndChannelClearAct := by
  refine ⟨fun rx channel value a s ⟨address, notLooped⟩ here => ?lamp,
    fun rx channel a s ⟨address, notLooped⟩ here => ?clear⟩
  case lamp =>
    intro s1 f
    have received {t : State} {status : Status}
        (acts : actLampSet channel value s1 = ⟨t, none, status, [], false⟩) :
        exec (.lampSet rx channel value) s = .next (t.reply rx.port f a status [] false) :=
      congrArg Host.Outcome.next (s.receive_of_answers rx.port f _ a address notLooped here acts)
    refine ⟨fun unlisted => received (actLampSet_of_unlisted s1 unlisted), ?_⟩
    rintro n lamp rfl listed
    exact received (actLampSet_of_listed s1 n (overrideOf_of_listed listed))
  case clear =>
    intro s1 f
    have received {t : State} {status : Status}
        (acts : actChannelClear channel s1 = ⟨t, none, status, [], false⟩) :
        exec (.channelClear rx channel) s = .next (t.reply rx.port f a status [] false) :=
      congrArg Host.Outcome.next (s.receive_of_answers rx.port f _ a address notLooped here acts)
    have record (n : ChannelNo) : s1.record n = s.record n := State.record_of_store s s1 n (by simp [s1])
    refine ⟨fun unlisted => received (actChannelClear_of_unlisted s1 unlisted), fun listed => ?_⟩
    obtain ⟨channels, acts, cleared⟩ := actChannelClear_of_listed s1 listed
    refine ⟨channels, received acts, fun n => ⟨fun spared => ?_, fun named latched r result => ?_⟩⟩
    · rw [cleared n]
      split
      next named =>
        exact Channel.clear_of_not_latched _ _ (spared.resolve_left fun other => other named)
      next => rfl
    · rw [cleared n, if_pos named, Channel.clear_of_latched _ _ latched result, record]

/-! ## The engine at a commit (R99) -/

section Commit

variable {ctx : Ctx} {old rec : ChannelRecord} {before after : Result} {e : Engine}

/-- The dwell or the retry wait has reached its new length (R99 step 1). -/
abbrev Engine.RunOut (now : Nat) (rec : ChannelRecord) (e : Engine) : Prop :=
  (e.state = .dwell ∧ ∃ since, e.timer = some (.dwell since) ∧ rec.reversalDwellMs ≤ now - since)
    ∨ (e.state = .retryWait ∧ ∃ since, e.timer = some (.retry since) ∧ rec.retryMs ≤ now - since)

theorem Engine.commitTimer_of_runOut {now : Nat} (h : e.RunOut now rec) :
    e.commitTimer now rec = e.rest .idle := by
  obtain ⟨state, since, timer, held⟩ | ⟨state, since, timer, held⟩ := h
  · simp [Engine.commitTimer, state, timer, held]
  · simp [Engine.commitTimer, state, timer, held]

theorem Engine.commitTimer_of_not_runOut {now : Nat} (h : ¬ e.RunOut now rec) :
    e.commitTimer now rec = e := by
  unfold Engine.commitTimer
  split
  next since state timer =>
    exact if_neg fun held => h (.inl ⟨state, since, timer, held⟩)
  next since state timer =>
    exact if_neg fun held => h (.inr ⟨state, since, timer, held⟩)
  next => rfl

/-- R99 step 3 latches a wait at or above the limit, unless S decides. -/
theorem Engine.commitLimit_of_limit (waits : e.state = .retryWait)
    (limit : after.layer ≠ .s ∧ limitReached rec e.retryCount = true) :
    e.commitLimit rec after.layer = e.rest .latched := if_pos ⟨waits, limit⟩

theorem Engine.commitLimit_of_kept
    (h : ¬ (e.state = .retryWait ∧ after.layer ≠ .s ∧ limitReached rec e.retryCount = true)) :
    e.commitLimit rec after.layer = e := if_neg h

/-- The rules of a changed deciding layer, which come first in a hand-over and in R99 step 4 (R92). -/
abbrev Engine.takeLayer (now : Nat) (rec : ChannelRecord) (before : Option Layer) (after : Layer)
    (e : Engine) : Engine :=
  if before = some after then e else e.exempt now rec before after

/-- Everything that a changed deciding layer can come to (R91, R92). -/
theorem Engine.takeLayer_cases (now : Nat) (rec : ChannelRecord) (before : Option Layer) (after : Layer)
    (e : Engine) :
    (e.state = .latched ∧ after = .s ∧ before ≠ some .s ∧ e.takeLayer now rec before after = e.wait now)
      ∨ (e.state = .retryWait ∧ after ≠ .s ∧ limitReached rec e.retryCount = true
          ∧ e.takeLayer now rec before after = e.rest .latched)
      ∨ (¬ (e.state = .latched ∧ after = .s ∧ before ≠ some .s)
          ∧ e.takeLayer now rec before after = e) := by
  unfold Engine.takeLayer
  split
  next same => exact .inr (.inr ⟨fun ⟨_, decides, new⟩ => new (decides ▸ same), rfl⟩)
  next changed =>
    unfold Engine.exempt
    split
    next decides =>
      subst decides
      split
      next latched => exact .inl ⟨latched, rfl, changed, rfl⟩
      next awake => exact .inr (.inr ⟨fun h => awake h.1, rfl⟩)
    next clear =>
      split
      next latches =>
        obtain ⟨_, waits, limit⟩ := latches
        exact .inr (.inl ⟨waits, clear, limit, rfl⟩)
      next => exact .inr (.inr ⟨fun ⟨_, smoke, _⟩ => clear smoke, rfl⟩)

/-- An engine that the rules of the deciding layer leave as it is. -/
theorem Engine.takeLayer_of_kept {now : Nat} {before : Option Layer} {after : Layer}
    (asleep : ¬ (e.state = .latched ∧ after = .s ∧ before ≠ some .s))
    (awake : ¬ (e.state = .retryWait ∧ after ≠ .s ∧ limitReached rec e.retryCount = true)) :
    e.takeLayer now rec before after = e := by
  obtain ⟨latched, decides, new, -⟩ | ⟨waits, clear, limit, -⟩ | ⟨-, kept⟩ :=
    e.takeLayer_cases now rec before after
  · exact absurd ⟨latched, decides, new⟩ asleep
  · exact absurd ⟨waits, clear, limit⟩ awake
  · exact kept

/-- S arrives at a LATCHED engine (R91). -/
theorem Engine.takeLayer_of_wakes {now : Nat} {before : Option Layer} {after : Layer}
    (latched : e.state = .latched) (decides : after = .s) (new : before ≠ some .s) :
    e.takeLayer now rec before after = e.wait now := by
  obtain ⟨-, -, -, woken⟩ | ⟨waits, -⟩ | ⟨asleep, -⟩ := e.takeLayer_cases now rec before after
  · exact woken
  · exact absurd (latched.symm.trans waits) nofun
  · exact absurd ⟨latched, decides, new⟩ asleep

section Move

variable {before : Option Result} {e1 : Engine}
  (layer : e.takeLayer ctx.now rec (before.map (·.layer)) after.layer = e1)

include layer

/-- R99 step 4 in IDLE, after the deciding layer's rules. -/
theorem Engine.commitMove_of_idle (idle : e1.state = .idle) :
    e.commitMove ctx old rec before after = e1.moveTest ctx rec after.target := by
  unfold Engine.takeLayer at layer
  simp only [Engine.commitMove, layer, idle]

/-- R99 step 4 in MOVING, where the commit changes nothing that R81 reads. -/
theorem Engine.commitMove_of_same (moving : e1.state = .moving)
    (same : before.map (·.target) = some after.target ∧ old.strokeMm = rec.strokeMm
      ∧ old.deadband = rec.deadband) :
    e.commitMove ctx old rec before after = e1 := by
  unfold Engine.takeLayer at layer
  simp only [Engine.commitMove, layer, moving]
  exact if_pos same

/-- R99 step 4 in MOVING, where the target, the stroke or the deadband changed. -/
theorem Engine.commitMove_of_changed (moving : e1.state = .moving)
    (changed : ¬ (before.map (·.target) = some after.target ∧ old.strokeMm = rec.strokeMm
      ∧ old.deadband = rec.deadband)) :
    e.commitMove ctx old rec before after = e1.retarget ctx rec after.target := by
  unfold Engine.takeLayer at layer
  simp only [Engine.commitMove, layer, moving]
  exact if_neg changed

/-- R99 step 4 in every other state. -/
theorem Engine.commitMove_of_still (notIdle : e1.state ≠ .idle) (notMoving : e1.state ≠ .moving) :
    e.commitMove ctx old rec before after = e1 := by
  unfold Engine.takeLayer at layer
  dsimp only [Engine.commitMove]
  rw [layer]
  split
  next idle => exact absurd idle notIdle
  next moving => exact absurd moving notMoving
  next => rfl

end Move

/-- The move test reads nothing of an engine that coming to rest replaces. -/
theorem Engine.moveTest_of_rest_eq {e e' : Engine} (target : Nat) (h : e'.rest .idle = e.rest .idle) :
    e'.moveTest ctx rec target = e.moveTest ctx rec target := by
  have tested (x : Engine) : x.moveTest ctx rec target = (x.rest .idle).moveTest ctx rec target := rfl
  rw [tested, h, ← tested]

/-- An engine that is in IDLE, or that the new length of its wait puts there, is tested once
(assumption 16). -/
theorem Engine.commit_of_tested (h : e.state = .idle ∨ e.RunOut ctx.now rec) :
    e.commit ctx old rec (some before) after = e.moveTest ctx rec after.target := by
  have idle : (e.commitTimer ctx.now rec).state = .idle := by
    by_cases runOut : e.RunOut ctx.now rec
    · rw [Engine.commitTimer_of_runOut runOut]; rfl
    · rw [Engine.commitTimer_of_not_runOut runOut]; exact h.resolve_right runOut
  have rest : (e.commitTimer ctx.now rec).rest .idle = e.rest .idle := by
    by_cases runOut : e.RunOut ctx.now rec
    · rw [Engine.commitTimer_of_runOut runOut]; rfl
    · rw [Engine.commitTimer_of_not_runOut runOut]
  let taken := (e.commitTimer ctx.now rec).commitDetectors old.detectors rec.detectors
  have state : taken.state = .idle := idle
  have kept : taken.takeLayer ctx.now rec (some before.layer) after.layer = taken :=
    Engine.takeLayer_of_kept (by simp [state]) (by simp [state])
  calc e.commit ctx old rec (some before) after
    _ = taken.commitMove ctx old rec (some before) after := by
      rw [Engine.commit, Engine.commitLimit_of_kept (by simp [idle, Engine.commitDetectors])]
    _ = taken.moveTest ctx rec after.target :=
      Engine.commitMove_of_idle (before := some before) kept state
    _ = e.moveTest ctx rec after.target := Engine.moveTest_of_rest_eq _ rest

end Commit

/-- Settles O28: step 1 by whether the wait has run out; then the engine with its detectors taken over meets
step 3 and step 4 by its state. -/
theorem survivingEngineFollowsCommit : Obligations.SurvivingEngineFollowsCommit := by
  intro ctx old rec before after e t keeps arms taken atRest runOut limit wakes same
  have taken_eq : e.commitDetectors old.detectors rec.detectors = taken := by
    simp only [Engine.commitDetectors, Bool.and_eq_true]
    rfl
  have limit_iff : after.layer ≠ .s ∧ limitReached rec e.retryCount = true ↔ limit :=
    and_congr_right' (limitReached_iff _ _)
  have same_iff : (some before).map (·.target) = some after.target ∧ old.strokeMm = rec.strokeMm
      ∧ old.deadband = rec.deadband ↔ same := by
    rw [Option.map_some, Option.some_inj, eq_comm]
  have timed (early : ¬ runOut) :
      t = (taken.commitLimit rec after.layer).commitMove ctx old rec (some before) after := by
    rw [← taken_eq]
    simp only [t, Engine.commit, Engine.commitTimer_of_not_runOut early]
  have carried (early : ¬ runOut) (noLimit : ¬ (e.state = .retryWait ∧ limit)) :
      t = taken.commitMove ctx old rec (some before) after := by
    rw [timed early, Engine.commitLimit_of_kept (e := taken) (by rwa [limit_iff])]
  have kept (asleep : ¬ (e.state = .latched ∧ wakes)) (noLimit : ¬ (e.state = .retryWait ∧ limit)) :
      taken.takeLayer ctx.now rec ((some before).map (·.layer)) after.layer = taken :=
    Engine.takeLayer_of_kept (e := taken) (by simpa [wakes] using asleep) (by rwa [limit_iff])
  have still (early : ¬ runOut) (notIdle : e.state ≠ .idle) (notMoving : e.state ≠ .moving)
      (asleep : ¬ (e.state = .latched ∧ wakes)) (noLimit : ¬ (e.state = .retryWait ∧ limit)) :
      t = taken :=
    (carried early noLimit).trans (Engine.commitMove_of_still (kept asleep noLimit) notIdle notMoving)
  refine ⟨Engine.commit_of_tested, fun moving unchanged => ?_, fun moving changed => ?_,
    fun dwells early => ?_, fun waits early noLimit => ?_, fun waits early isLimit => ?_,
    fun latched asleep => ?_, fun latched woken => ?_, fun held => ?_⟩
  · rw [carried (by simp [runOut, moving]) (by simp [moving])]
    exact Engine.commitMove_of_same (kept (by simp [moving]) (by simp [moving])) moving
      (same_iff.mpr unchanged)
  · rw [carried (by simp [runOut, moving]) (by simp [moving])]
    exact Engine.commitMove_of_changed (kept (by simp [moving]) (by simp [moving])) moving
      (mt same_iff.mp changed)
  · exact still early (by simp [dwells]) (by simp [dwells]) (by simp [dwells]) (by simp [dwells])
  · exact still early (by simp [waits]) (by simp [waits]) (by simp [waits]) fun h => noLimit h.2
  · rw [timed early, Engine.commitLimit_of_limit (e := taken) waits (limit_iff.mpr isLimit)]
    exact Engine.commitMove_of_still
      (Engine.takeLayer_of_kept (fun ⟨_, smoke, _⟩ => isLimit.1 smoke) fun h => nomatch h.1) nofun nofun
  · exact still (by simp [runOut, latched]) (by simp [latched]) (by simp [latched])
      (fun h => asleep h.2) (by simp [latched])
  · rw [carried (by simp [runOut, latched]) (by simp [latched])]
    exact Engine.commitMove_of_still
      (Engine.takeLayer_of_wakes (e := taken) latched woken.1 (by simpa using woken.2)) nofun nofun
  · exact still (by simp [runOut, held]) (by simp [held]) (by simp [held]) (by simp [held])
      (by simp [held])

end Sys2Proof.Machine

/-! SUPPORT. The laws of the engines and bindings (R73, R83, R96, R100, section 6.5), of smoke (R91) and of the
supply (R77, R94), engine by engine: each transition of a bound engine leaves it bound and in order, none but
the move test of a supplied part starts it travelling, and none leaves it LATCHED where S decides. -/

namespace Sys2Proof.Machine

theorem EngineState.isBound_of_travels {state : EngineState} (h : state.travels = true) :
    state.isBound = true := by
  revert h; cases state <;> decide

/-! ## An engine in order (R73, R83, R96, R100) -/

/-- The fields of an engine are those of its state. -/
structure Engine.InOrder (e : Engine) : Prop where
  direction : e.direction.isSome = e.state.travels
  timer : timerFits e.state e.timer = true
  position : e.position.isNone = decide (e.state = .unbound)
  count : e.retryCount ≤ 255
  still : e.state.travels = false → e.overcurrentRun = none ∧ e.armed = DetectorMarks.all
  notMoving : e.state ≠ .moving → e.noLoadRun = none ∧ e.reference = none
  moving : e.state = .moving → e.stopOwed = false
  lost : e.state = .lost → e.retryCount = 0 ∧ e.stopOwed = false
  unbound : e.state = .unbound → e = { Engine.powerOn with lampOverride := e.lampOverride }

theorem Engine.law_iff (e : Engine) : e.Law ↔ e.InOrder := by
  constructor
  · rintro ⟨direction, timer, position, count, still, notMoving, moving, lost, unbound⟩
    exact ⟨direction, timer, position, count, still, notMoving, moving, lost, unbound⟩
  · rintro ⟨direction, timer, position, count, still, notMoving, moving, lost, unbound⟩
    exact ⟨direction, timer, position, count, still, notMoving, moving, lost, unbound⟩

/-- An engine of a BOUND channel, in order. -/
structure Engine.Bound (e : Engine) : Prop where
  inOrder : e.InOrder
  isBound : e.state.isBound = true

/-- What every bound engine has, whatever its state: a position and a count in range. -/
structure Engine.Carried (e : Engine) : Prop where
  position : e.position.isNone = false
  count : e.retryCount ≤ 255

theorem Engine.Bound.carried {e : Engine} (h : e.Bound) : e.Carried where
  position := by
    have notUnbound : e.state ≠ .unbound := fun unbound => by simpa [unbound, EngineState.isBound] using h.isBound
    rw [h.inOrder.position, decide_eq_false notUnbound]
  count := h.inOrder.count

theorem Engine.inOrder_powerOn : Engine.powerOn.InOrder := (Engine.law_iff _).mp (by decide)

/-! ## The transitions of a bound engine (R74 to R96) -/

section Transitions

variable {e : Engine}

/-- An engine put in a state that is neither MOVING nor DWELL. -/
theorem Engine.Carried.atRest (h : e.Carried) {state : EngineState} {timer : Option EngineTimer}
    (isBound : state.isBound = true) (still : state.travels = false) (fits : timerFits state timer = true)
    (owed : Bool) : ({ e.rest state with timer, stopOwed := owed }).Bound where
  inOrder :=
    { direction := still.symm
      timer := fits
      position := by
        rw [decide_eq_false fun unbound => ?_]
        · exact h.position
        · exact absurd (isBound.symm.trans (congrArg EngineState.isBound unbound)) nofun
      count := h.count
      still := fun _ => ⟨rfl, rfl⟩
      notMoving := fun _ => ⟨rfl, rfl⟩
      moving := fun moving => absurd (still.symm.trans (congrArg EngineState.travels moving)) nofun
      lost := fun lost => absurd (isBound.symm.trans (congrArg EngineState.isBound lost)) nofun
      unbound := fun unbound => absurd (isBound.symm.trans (congrArg EngineState.isBound unbound)) nofun }
  isBound := isBound

theorem Engine.Carried.idle (h : e.Carried) : (e.rest .idle).Bound := h.atRest rfl rfl rfl e.stopOwed

theorem Engine.Carried.latched (h : e.Carried) : (e.rest .latched).Bound :=
  h.atRest rfl rfl rfl e.stopOwed

theorem Engine.Carried.hold (h : e.Carried) : e.hold.Bound := h.atRest rfl rfl rfl true

theorem Engine.Carried.wait (h : e.Carried) (now : Nat) : (e.wait now).Bound :=
  h.atRest rfl rfl rfl e.stopOwed

theorem Engine.Carried.move (h : e.Carried) (ctx : Ctx) (rec : ChannelRecord) (d : Direction) (mm : Nat) :
    (e.move ctx rec d mm).Bound :=
  ⟨⟨rfl, rfl, h.position, h.count, nofun, fun other => absurd rfl other, fun _ => rfl, nofun, nofun⟩, rfl⟩

theorem Engine.Carried.lose (h : e.Carried) : e.lose.InOrder :=
  ⟨rfl, rfl, h.position, Nat.zero_le _, fun _ => ⟨rfl, rfl⟩, fun _ => ⟨rfl, rfl⟩, nofun, fun _ => ⟨rfl, rfl⟩, nofun⟩

theorem Engine.InOrder.enterDwell (h : e.InOrder) (moving : e.state = .moving) (now : Nat) :
    (e.enterDwell now).Bound where
  inOrder :=
    { direction := h.direction.trans (by rw [moving]; rfl)
      timer := rfl
      position := h.position.trans (by rw [moving]; rfl)
      count := h.count
      still := nofun
      notMoving := fun _ => ⟨rfl, rfl⟩
      moving := nofun
      lost := nofun
      unbound := nofun }
  isBound := rfl

/-- In MOVING runs, reference and armed marks may be what they are. -/
theorem Engine.InOrder.watch (h : e.InOrder) (moving : e.state = .moving) (overcurrent noLoad : Option Nat)
    (reference : Option ProgressReference) (armed : DetectorMarks) (fault : Option Detector) :
    ({ e with
        overcurrentRun := overcurrent, noLoadRun := noLoad, reference, armed, lastFault := fault }).Bound where
  inOrder :=
    { direction := h.direction
      timer := h.timer
      position := h.position
      count := h.count
      still := fun still => by simp [moving, EngineState.travels] at still
      notMoving := fun other => absurd moving other
      moving := h.moving
      lost := h.lost
      unbound := fun unbound => absurd (moving.symm.trans unbound) nofun }
  isBound := by rw [moving]; rfl

/-- In MOVING and DWELL the OVERCURRENT run and the armed marks may be what they are. -/
theorem Engine.InOrder.watchTravel (h : e.InOrder) (travels : e.state.travels = true)
    (overcurrent : Option Nat) (armed : DetectorMarks) (fault : Option Detector) :
    ({ e with overcurrentRun := overcurrent, armed, lastFault := fault }).Bound where
  inOrder :=
    { direction := h.direction
      timer := h.timer
      position := h.position
      count := h.count
      still := fun still => by simp [travels] at still
      notMoving := h.notMoving
      moving := h.moving
      lost := h.lost
      unbound := fun unbound =>
        absurd (travels.symm.trans (congrArg EngineState.travels unbound)) nofun }
  isBound := EngineState.isBound_of_travels travels

end Transitions

/-! ## What an event keeps of an engine -/

/-- A bound engine stays bound and in order, and without the supply none starts to travel (R77, R94). -/
structure Engine.Keeps (supplyOk : Bool) (e e' : Engine) : Prop where
  bound : e.Bound → e'.Bound
  travels : supplyOk = false → e.state.travels = false → e'.state.travels = false

theorem Engine.Keeps.refl (supplyOk : Bool) (e : Engine) : e.Keeps supplyOk e := ⟨id, fun _ => id⟩

theorem Engine.Keeps.trans {supplyOk : Bool} {e e' e'' : Engine} (h : e.Keeps supplyOk e')
    (k : e'.Keeps supplyOk e'') : e.Keeps supplyOk e'' :=
  ⟨k.bound ∘ h.bound, fun out => k.travels out ∘ h.travels out⟩

/-- An event that ends at rest. -/
theorem Engine.Keeps.of_still {supplyOk : Bool} {e e' : Engine} (bound : e.Bound → e'.Bound)
    (still : e'.state.travels = false) : e.Keeps supplyOk e' :=
  ⟨bound, fun _ _ => still⟩

section Keeps

variable (ctx : Ctx) (rec : ChannelRecord) (target : Nat) (e : Engine)

/-- What the move test can leave (R77). -/
theorem Engine.moveTest_cases :
    e.moveTest ctx rec target = e.rest .idle
      ∨ (ctx.supplyOk = true ∧ ∃ d mm, e.moveTest ctx rec target = e.move ctx rec d mm)
      ∨ e.moveTest ctx rec target = e.hold := by
  unfold Engine.moveTest
  split
  · exact .inl rfl
  · split_ifs with reached supply
    · exact .inl rfl
    · exact .inr (.inl ⟨supply, _, _, rfl⟩)
    · exact .inr (.inr rfl)

theorem Engine.moveTest_keeps : e.Keeps ctx.supplyOk (e.moveTest ctx rec target) := by
  obtain idle | ⟨supply, d, mm, moves⟩ | holds := e.moveTest_cases ctx rec target
  · exact idle ▸ .of_still (fun h => h.carried.idle) rfl
  · exact moves ▸ ⟨fun h => h.carried.move ctx rec d mm, fun out => absurd (out.symm.trans supply) nofun⟩
  · exact holds ▸ .of_still (fun h => h.carried.hold) rfl

theorem Engine.moveTest_not_latched : (e.moveTest ctx rec target).state ≠ .latched := by
  obtain idle | ⟨-, d, mm, moves⟩ | holds := e.moveTest_cases ctx rec target
  · exact idle ▸ nofun
  · exact moves ▸ nofun
  · exact holds ▸ nofun

/-- What a changed target in MOVING can leave (R81). -/
theorem Engine.retarget_cases :
    (∃ reference, e.retarget ctx rec target = { e with reference })
      ∨ e.retarget ctx rec target = e.enterDwell ctx.now := by
  unfold Engine.retarget
  split
  · exact .inl ⟨e.reference, rfl⟩
  · split_ifs
    · exact .inr rfl
    · exact .inl ⟨_, rfl⟩
    · exact .inr rfl

theorem Engine.retarget_keeps (moving : e.state = .moving) :
    e.Keeps ctx.supplyOk (e.retarget ctx rec target) := by
  have travels : e.state.travels = true := by rw [moving]; rfl
  refine ⟨fun h => ?_, fun _ still => absurd (still.symm.trans travels) nofun⟩
  obtain ⟨reference, ahead⟩ | dwells := e.retarget_cases ctx rec target
  · exact ahead ▸ h.inOrder.watch moving _ _ reference _ _
  · exact dwells ▸ h.inOrder.enterDwell moving _

theorem Engine.retarget_not_latched (moving : e.state = .moving) :
    (e.retarget ctx rec target).state ≠ .latched := by
  obtain ⟨reference, ahead⟩ | dwells := e.retarget_cases ctx rec target
  · rw [ahead]; exact fun latched => absurd (moving.symm.trans latched) nofun
  · exact dwells ▸ nofun

/-! ### Hand-overs (R79, R92) -/

theorem Engine.takeLayer_keeps (supplyOk : Bool) (now : Nat) (before : Option Layer) (after : Layer) :
    e.Keeps supplyOk (e.takeLayer now rec before after) := by
  obtain ⟨-, -, -, woken⟩ | ⟨-, -, -, latches⟩ | ⟨-, kept⟩ := e.takeLayer_cases now rec before after
  · exact woken ▸ .of_still (fun h => h.carried.wait now) rfl
  · exact latches ▸ .of_still (fun h => h.carried.latched) rfl
  · rw [kept]; exact .refl supplyOk e

/-- S deciding, the rules of the deciding layer leave only that LATCHED which S was deciding already (R91). -/
theorem Engine.takeLayer_latched {now : Nat} {before : Option Layer} {after : Layer} (smoke : after = .s)
    (latched : (e.takeLayer now rec before after).state = .latched) :
    e.state = .latched ∧ before = some .s := by
  obtain ⟨-, -, -, woken⟩ | ⟨-, clear, -⟩ | ⟨asleep, kept⟩ := e.takeLayer_cases now rec before after
  · rw [woken] at latched; cases latched
  · exact absurd smoke clear
  · rw [kept] at latched
    exact ⟨latched, by_contra fun new => asleep ⟨latched, smoke, new⟩⟩

variable {target e}

/-- What a target can make of an engine once the rules of the deciding layer have been taken: the move test in
IDLE, R81 in MOVING. -/
def Engine.TakesTarget (target : Nat) (e e' : Engine) : Prop :=
  e' = e ∨ (e.state = .idle ∧ e' = e.moveTest ctx rec target)
    ∨ (e.state = .moving ∧ e' = e.retarget ctx rec target)

theorem Engine.TakesTarget.keeps {e' : Engine} (h : e.TakesTarget ctx rec target e') :
    e.Keeps ctx.supplyOk e' := by
  obtain rfl | ⟨-, rfl⟩ | ⟨moving, rfl⟩ := h
  · exact .refl _ _
  · exact e.moveTest_keeps ctx rec target
  · exact e.retarget_keeps ctx rec target moving

theorem Engine.TakesTarget.latched {e' : Engine} (h : e.TakesTarget ctx rec target e')
    (latched : e'.state = .latched) : e.state = .latched := by
  obtain rfl | ⟨-, rfl⟩ | ⟨moving, rfl⟩ := h
  · exact latched
  · exact absurd latched (e.moveTest_not_latched ctx rec target)
  · exact absurd latched (e.retarget_not_latched ctx rec target moving)

variable (before : Option Result) (after : Result) (e)

theorem Engine.handOver_takesTarget :
    (e.takeLayer ctx.now rec (before.map (·.layer)) after.layer).TakesTarget ctx rec after.target
      (e.handOver ctx rec before after) := by
  unfold Engine.TakesTarget Engine.handOver
  dsimp only
  split
  · exact .inl rfl
  · split
    next idle => exact .inr (.inl ⟨idle, rfl⟩)
    next moving => exact .inr (.inr ⟨moving, rfl⟩)
    next => exact .inl rfl

theorem Engine.commitMove_takesTarget (old : ChannelRecord) :
    (e.takeLayer ctx.now rec (before.map (·.layer)) after.layer).TakesTarget ctx rec after.target
      (e.commitMove ctx old rec before after) := by
  unfold Engine.TakesTarget Engine.commitMove
  dsimp only
  split
  next idle => exact .inr (.inl ⟨idle, rfl⟩)
  next moving =>
    split
    · exact .inl rfl
    · exact .inr (.inr ⟨moving, rfl⟩)
  next => exact .inl rfl

theorem Engine.handOver_keeps : e.Keeps ctx.supplyOk (e.handOver ctx rec before after) :=
  (e.takeLayer_keeps rec _ _ _ _).trans (e.handOver_takesTarget ctx rec before after).keeps

theorem Engine.handOver_latched (smoke : after.layer = .s)
    (latched : (e.handOver ctx rec before after).state = .latched) :
    e.state = .latched ∧ before.map (·.layer) = some .s :=
  e.takeLayer_latched rec smoke
    (Engine.TakesTarget.latched ctx rec (e.handOver_takesTarget ctx rec before after) latched)

/-- An engine that is not bound is handed nothing over (R79). -/
theorem Engine.handOver_of_not_bound (h : e.state.isBound = false) :
    e.handOver ctx rec before after = e := by
  have none (state : EngineState) (bound : state.isBound = true) : e.state ≠ state := fun same =>
    absurd (h.symm.trans (congrArg EngineState.isBound same |>.trans bound)) nofun
  have kept : e.takeLayer ctx.now rec (before.map (·.layer)) after.layer = e :=
    Engine.takeLayer_of_kept (fun h => none .latched rfl h.1) (fun h => none .retryWait rfl h.1)
  have takes := e.handOver_takesTarget ctx rec before after
  rw [kept] at takes
  obtain same | ⟨idle, -⟩ | ⟨moving, -⟩ := takes
  · exact same
  · exact absurd idle (none .idle rfl)
  · exact absurd moving (none .moving rfl)

/-! ### A commit (R99) -/

theorem Engine.commitTimer_cases (now : Nat) :
    e.commitTimer now rec = e.rest .idle ∨ e.commitTimer now rec = e := by
  by_cases runOut : e.RunOut now rec
  · exact .inl (Engine.commitTimer_of_runOut runOut)
  · exact .inr (Engine.commitTimer_of_not_runOut runOut)

theorem Engine.commitTimer_keeps (supplyOk : Bool) (now : Nat) :
    e.Keeps supplyOk (e.commitTimer now rec) := by
  obtain idle | kept := e.commitTimer_cases rec now
  · exact idle ▸ .of_still (fun h => h.carried.idle) rfl
  · rw [kept]; exact .refl supplyOk e

theorem Engine.commitDetectors_keeps (supplyOk : Bool) (old new : DetectorMarks) :
    e.Keeps supplyOk (e.commitDetectors old new) where
  bound h :=
    { inOrder :=
        { h.inOrder with
          still := fun still => by
            obtain ⟨run, armed⟩ := h.inOrder.still still
            simp [Engine.commitDetectors, run, armed, DetectorMarks.all, DetectorMarks.get]
          notMoving := fun other => by
            obtain ⟨run, reference⟩ := h.inOrder.notMoving other
            simp [Engine.commitDetectors, run, reference]
          unbound := fun unbound =>
            absurd (h.isBound.symm.trans (congrArg EngineState.isBound unbound)) nofun }
      isBound := h.isBound }
  travels _ := id

theorem Engine.commitLimit_keeps (supplyOk : Bool) (layer : Layer) :
    e.Keeps supplyOk (e.commitLimit rec layer) := by
  unfold Engine.commitLimit
  split
  · exact .of_still (fun h => h.carried.latched) rfl
  · exact .refl _ e

theorem Engine.commitLimit_latched {layer : Layer} (smoke : layer = .s)
    (latched : (e.commitLimit rec layer).state = .latched) : e.state = .latched := by
  rwa [Engine.commitLimit, if_neg fun ⟨_, clear, _⟩ => clear smoke] at latched

theorem Engine.commit_keeps (old : ChannelRecord) :
    e.Keeps ctx.supplyOk (e.commit ctx old rec before after) :=
  ((((e.commitTimer_keeps rec _ _).trans (Engine.commitDetectors_keeps _ _ _ _)).trans
    (Engine.commitLimit_keeps rec _ _ _)).trans (Engine.takeLayer_keeps rec _ _ _ _ _)).trans
      (Engine.commitMove_takesTarget ctx rec _ before after old).keeps

theorem Engine.commit_latched (old : ChannelRecord) (smoke : after.layer = .s)
    (latched : (e.commit ctx old rec before after).state = .latched) :
    e.state = .latched ∧ before.map (·.layer) = some .s := by
  have taken := Engine.TakesTarget.latched ctx rec (Engine.commitMove_takesTarget ctx rec _ before after old) latched
  obtain ⟨limited, decided⟩ := Engine.takeLayer_latched rec _ smoke taken
  have timed : (e.commitTimer ctx.now rec).state = .latched :=
    Engine.commitLimit_latched rec (Engine.commitDetectors _ _ _) smoke limited
  obtain idle | kept := e.commitTimer_cases rec ctx.now
  · rw [idle] at timed; cases timed
  · exact ⟨kept ▸ timed, decided⟩

end Keeps

/-! ## Answers (R80 to R91) -/

section Answers

variable (now : Nat) (n : ChannelNo) (rec : ChannelRecord) (a : Answer) (e : Engine)

/-- An evaluation changes the runs, the reference and the armed marks; those of NO_PROGRESS and NO_LOAD only
where these are evaluated. -/
theorem evalDetector_cases (d : Detector) :
    (∃ run armed, (evalDetector now rec a d e).engine
        = { e with overcurrentRun := run, armed })
      ∨ ((d = .noProgress ∨ d = .noLoad) ∧ ∃ run reference armed, (evalDetector now rec a d e).engine
        = { e with noLoadRun := run, reference, armed }) := by
  cases d with
  | driveFlag =>
    refine .inl ⟨e.overcurrentRun, ?_⟩
    simp only [evalDetector, evalDriveFlag]
    split <;> exact ⟨_, rfl⟩
  | overcurrent =>
    refine .inl ?_
    simp only [evalDetector, evalOvercurrent]
    split_ifs
    · split <;> exact ⟨_, _, rfl⟩
    · exact ⟨_, _, rfl⟩
    · exact ⟨_, _, rfl⟩
  | noProgress =>
    refine .inr ⟨.inl rfl, e.noLoadRun, ?_⟩
    simp only [evalDetector, evalNoProgress]
    split
    · split_ifs <;> exact ⟨_, _, rfl⟩
    · split_ifs <;> exact ⟨_, _, rfl⟩
  | noLoad =>
    refine .inr ⟨.inr rfl, ?_⟩
    simp only [evalDetector, evalNoLoad]
    split_ifs
    · split <;> exact ⟨_, _, _, rfl⟩
    · exact ⟨_, _, _, rfl⟩
    · exact ⟨_, _, _, rfl⟩

/-- Detectors are evaluated where the engine travels, NO_PROGRESS and NO_LOAD in MOVING alone (R83). -/
theorem travels_of_detectorsIn {state : EngineState} {d : Detector} (h : d ∈ detectorsIn state) :
    state.travels = true ∧ (d = .noProgress ∨ d = .noLoad → state = .moving) := by
  cases state with
  | moving => exact ⟨rfl, fun _ => rfl⟩
  | dwell =>
    have early : d = .driveFlag ∨ d = .overcurrent := by simpa [detectorsIn] using h
    exact ⟨rfl, by obtain rfl | rfl := early <;> simp⟩
  | _ => exact absurd h List.not_mem_nil

/-- A detector of the engine's state leaves the engine in its state, in order. -/
theorem evalDetector_keeps {d : Detector} (evaluated : d ∈ detectorsIn e.state) :
    (evalDetector now rec a d e).engine.state = e.state
      ∧ (e.Bound → (evalDetector now rec a d e).engine.Bound) := by
  obtain ⟨travels, moving⟩ := travels_of_detectorsIn evaluated
  obtain ⟨run, armed, engine⟩ | ⟨late, run, reference, armed, engine⟩ := evalDetector_cases now rec a e d
  · exact engine ▸ ⟨rfl, fun h => h.inOrder.watchTravel travels run armed _⟩
  · exact engine ▸ ⟨rfl, fun h => h.inOrder.watch (moving late) _ run reference armed _⟩

theorem evalDetectors_keeps (ds : List Detector) (evaluated : ∀ d ∈ ds, d ∈ detectorsIn e.state) :
    (evalDetectors now rec a ds e).1.state = e.state
      ∧ (e.Bound → (evalDetectors now rec a ds e).1.Bound) := by
  induction ds generalizing e with
  | nil => exact ⟨rfl, id⟩
  | cons d rest ih =>
    obtain ⟨here, later⟩ := List.forall_mem_cons.mp evaluated
    obtain ⟨state, bound⟩ := evalDetector_keeps now rec a e here
    obtain ⟨nextState, nextBound⟩ := ih (evalDetector now rec a d e).engine (state ▸ later)
    cases enabled : rec.detectors.get d
    · rw [evalDetectors_of_disabled now rec a e rest enabled]
      exact ih e later
    · cases fired : (evalDetector now rec a d e).fired
      · rw [evalDetectors_of_quiet now rec a e rest enabled fired]
        exact ⟨nextState.trans state, nextBound ∘ bound⟩
      · rw [evalDetectors_of_fired now rec a e rest enabled fired]
        exact ⟨state, bound⟩

variable {e}

/-- A fault of a travelling engine (R87, R88, R91). -/
theorem Engine.fault_keeps (supplyOk : Bool) (layer : Option Layer) (d : Detector)
    (travels : e.state.travels = true) : e.Keeps supplyOk (e.fault now rec layer d) := by
  refine ⟨fun h => ?_, fun _ still => absurd (still.symm.trans travels) nofun⟩
  have carried (count : Nat) (small : count ≤ 255) :
      ({ e with lastFault := some d, retryCount := count }).Carried := ⟨h.carried.position, small⟩
  have risen : risen e.retryCount ≤ 255 := Nat.min_le_left _ _
  obtain ⟨-, reports⟩ | waits | ⟨-, count, counted, latches⟩ := e.fault_cases now rec layer d
  · exact reports ▸ h.inOrder.watchTravel travels _ _ _
  · exact waits ▸ (carried _ risen).atRest rfl rfl rfl true
  · rw [latches]
    refine (carried count ?_).atRest rfl rfl rfl true
    obtain rfl | rfl := counted
    · exact h.carried.count
    · exact risen

/-- A fault latches only where S does not decide (R91). -/
theorem Engine.fault_not_latched (d : Detector) (travels : e.state.travels = true) :
    (e.fault now rec (some .s) d).state ≠ .latched := by
  obtain ⟨-, reports⟩ | waits | ⟨clear, -⟩ := e.fault_cases now rec (some .s) d
  · rw [reports]
    exact fun latched => absurd (travels.symm.trans (congrArg EngineState.travels latched)) nofun
  · exact waits ▸ nofun
  · exact absurd rfl clear

variable (e)

theorem Engine.record_keeps (supplyOk : Bool) : e.Keeps supplyOk (e.record a) where
  bound h :=
    { inOrder :=
        { h.inOrder with
          position := by
            refine (decide_eq_false fun unbound => ?_).symm
            exact absurd (h.isBound.symm.trans (congrArg EngineState.isBound unbound)) nofun
          unbound := fun unbound =>
            absurd (h.isBound.symm.trans (congrArg EngineState.isBound unbound)) nofun }
      isBound := h.isBound }
  travels _ := id

variable {e}

theorem Engine.detect_keeps (supplyOk : Bool) (layer : Option Layer) (travels : e.state.travels = true) :
    e.Keeps supplyOk (e.detect now n rec layer a).engine := by
  obtain ⟨state, bound⟩ := evalDetectors_keeps now rec a e (detectorsIn e.state) fun _ => id
  have evaluated : e.Keeps supplyOk (evalDetectors now rec a (detectorsIn e.state) e).1 :=
    ⟨bound, fun _ still => (congrArg EngineState.travels state).trans still⟩
  cases ran : evalDetectors now rec a (detectorsIn e.state) e with
  | mk e' found =>
    rw [ran] at evaluated state
    cases found with
    | none => rwa [Engine.detect_of_quiet n layer ran]
    | some d =>
      rw [Engine.detect_of_fired n layer ran]
      exact evaluated.trans (e'.fault_keeps now rec supplyOk layer d (state ▸ travels))

theorem Engine.detect_not_latched (travels : e.state.travels = true) :
    (e.detect now n rec (some .s) a).engine.state ≠ .latched := by
  obtain ⟨state, -⟩ := evalDetectors_keeps now rec a e (detectorsIn e.state) fun _ => id
  cases ran : evalDetectors now rec a (detectorsIn e.state) e with
  | mk e' found =>
    rw [ran] at state
    have still : e'.state.travels = true := state ▸ travels
    cases found with
    | none =>
      rw [Engine.detect_of_quiet n _ ran]
      exact fun latched => absurd (still.symm.trans (congrArg EngineState.travels latched)) nofun
    | some d =>
      rw [Engine.detect_of_fired n _ ran]
      exact e'.fault_not_latched now rec d still

/-- Everything that the judgement of an answer can come to: the answer is recorded, the move ends, or the
detectors of a travelling engine act. -/
theorem Engine.judge_cases (result : Option Result) :
    (e.judge now n rec result a).engine = e.record a
      ∨ (e.judge now n rec result a).engine = e.arrive a
      ∨ (e.state.travels = true
          ∧ (e.judge now n rec result a).engine
            = ((e.record a).detect now n rec (result.map (·.layer)) a).engine) := by
  by_cases dwells : e.state = .dwell
  · exact .inr (.inr ⟨by rw [dwells]; rfl, by rw [Engine.judge_of_dwell dwells]⟩)
  by_cases moving : e.state = .moving
  · cases result with
    | none => exact .inl (by rw [Engine.judge_of_other none (.inr rfl) dwells])
    | some r =>
      have underWay (goesOn : a.running = true
          ∨ (atTarget rec r.target a.position = false ∧ endSwitch a e.direction = false)) :
          (e.judge now n rec (some r) a).engine
            = ((e.record a).detect now n rec (some r.layer) a).engine := by
        rw [Engine.judge_of_underWay moving goesOn]
      have travels : e.state.travels = true := by rw [moving]; rfl
      cases running : a.running
      · cases near : atTarget rec r.target a.position
        · cases ended : endSwitch a e.direction
          · exact .inr (.inr ⟨travels, underWay (.inr ⟨near, ended⟩)⟩)
          · exact .inr (.inl (by rw [Engine.judge_of_ended moving running near ended]))
        · exact .inr (.inl (by rw [Engine.judge_of_reached moving running near]))
      · exact .inr (.inr ⟨travels, underWay (.inl running)⟩)
  · exact .inl (by rw [Engine.judge_of_other result (.inl moving) dwells])

theorem Engine.judge_keeps (supplyOk : Bool) (result : Option Result) :
    e.Keeps supplyOk (e.judge now n rec result a).engine := by
  have recorded := e.record_keeps a supplyOk
  obtain only | arrives | ⟨travels, detects⟩ := e.judge_cases now n rec a result
  · exact only ▸ recorded
  · refine arrives ▸ .of_still (fun h => ?_) rfl
    exact Engine.Carried.idle (e := { e.record a with retryCount := 0 })
      ⟨(recorded.bound h).carried.position, Nat.zero_le _⟩
  · exact detects ▸ recorded.trans ((e.record a).detect_keeps now n rec a supplyOk _ travels)

/-- S deciding, an answer leaves only that LATCHED which was (R91). -/
theorem Engine.judge_latched {result : Option Result} (smoke : result.map (·.layer) = some .s)
    (latched : (e.judge now n rec result a).engine.state = .latched) : e.state = .latched := by
  obtain only | arrives | ⟨travels, detects⟩ := e.judge_cases now n rec a result
  · rwa [only] at latched
  · rw [arrives] at latched; cases latched
  · rw [detects, smoke] at latched
    exact absurd latched ((e.record a).detect_not_latched now n rec a travels)

end Answers

/-! ## The supply (R94) -/

theorem Engine.supplyOut_cases (e : Engine) :
    (e.state.isBound = true ∧ e.supplyOut = e.hold) ∨ (e.state.travels = false ∧ e.supplyOut = e) := by
  unfold Engine.supplyOut
  split
  next moving => exact .inl ⟨by rw [moving]; rfl, rfl⟩
  next dwells => exact .inl ⟨by rw [dwells]; rfl, rfl⟩
  next waits => exact .inl ⟨by rw [waits]; rfl, rfl⟩
  next notMoving notDwell _ =>
    refine .inr ⟨?_, rfl⟩
    cases state : e.state with
    | moving => exact absurd state notMoving
    | dwell => exact absurd state notDwell
    | _ => rfl

theorem Engine.supplyOut_still (e : Engine) : e.supplyOut.state.travels = false := by
  obtain ⟨-, holds⟩ | ⟨still, kept⟩ := e.supplyOut_cases
  · rw [holds]; rfl
  · rw [kept]; exact still

end Sys2Proof.Machine

/-! SUPPORT. The same three laws channel by channel, engine and binding record together, and how the operations
that the commands share keep them for the whole part. -/

namespace Sys2Proof.Machine

/-! ## A channel in order (section 6.5, R20) -/

/-- Engine and binding record are in order and agree, and a channel not in use is UNBOUND. -/
structure Channel.InOrder (rec : ChannelRecord) (c : Channel) : Prop where
  engine : c.engine.InOrder
  status : c.binding.status = c.engine.state.binding
  serial : c.binding.serial.isSome = decide (c.binding.status ≠ .unbound)
  counted : c.binding.misses.isSome = decide (c.binding.status = .bound)
  misses : ∀ k ∈ c.binding.misses, k ≤ 2
  unused : rec.inUse = false → c.engine.state = .unbound

theorem State.engineLaw_iff (s : State) :
    s.EngineLaw ↔ s.exchangeInOrder = true ∧ ∀ n, (s.channels.get n).InOrder (s.record n) := by
  refine and_congr_right' (forall_congr' fun n => ?_)
  rw [Engine.law_iff]
  constructor
  · rintro ⟨engine, ⟨status, serial, counted, misses⟩, unused⟩
    exact ⟨engine, status, serial, counted, misses, unused⟩
  · rintro ⟨engine, status, serial, counted, misses, unused⟩
    exact ⟨engine, ⟨status, serial, counted, misses⟩, unused⟩

/-- The binding record of a BOUND channel. -/
structure Binding.InForce (b : Binding) : Prop where
  status : b.status = .bound
  serial : b.serial.isSome = true
  misses : ∃ k, b.misses = some k ∧ k ≤ 2

theorem EngineState.binding_eq_bound_iff (state : EngineState) :
    state.binding = .bound ↔ state.isBound = true := by
  cases state <;> decide

section Bound

variable {rec : ChannelRecord} {c : Channel}

theorem Channel.InOrder.isBound_iff (h : c.InOrder rec) :
    c.engine.state.isBound = true ↔ c.binding.status = .bound := by
  rw [h.status, EngineState.binding_eq_bound_iff]

theorem Channel.InOrder.bound (h : c.InOrder rec) (isBound : c.engine.state.isBound = true) :
    c.engine.Bound ∧ c.binding.InForce ∧ rec.inUse = true := by
  have status := h.isBound_iff.mp isBound
  have counted : c.binding.misses.isSome = true := by rw [h.counted, status]; rfl
  obtain ⟨k, misses⟩ := Option.isSome_iff_exists.mp counted
  refine ⟨⟨h.engine, isBound⟩, ⟨status, by rw [h.serial, status]; rfl, k, misses, h.misses k misses⟩, ?_⟩
  by_contra free
  rw [h.unused ((Bool.not_eq_true _).mp free)] at isBound
  cases isBound

theorem Channel.inOrder_of_bound (engine : c.engine.Bound) (binding : c.binding.InForce)
    (used : rec.inUse = true) : c.InOrder rec := by
  obtain ⟨status, serial, k, misses, few⟩ := binding
  refine ⟨engine.inOrder, ?_, by rw [serial, status]; rfl, by rw [misses, status]; rfl, ?_,
    fun unused => absurd (used.symm.trans unused) nofun⟩
  · rw [status, (EngineState.binding_eq_bound_iff _).mpr engine.isBound]
  · rw [misses]
    rintro _ ⟨⟩
    exact few

end Bound

/-- A channel not in force, as power-on, a node reset and a lost binding field leave it. -/
theorem Channel.inOrder_of_powerOn (rec : ChannelRecord) {c : Channel} (engine : c.engine = Engine.powerOn)
    (binding : c.binding = Binding.none) : c.InOrder rec := by
  have state : c.engine.state = .unbound := by rw [engine]; rfl
  exact ⟨engine ▸ Engine.inOrder_powerOn, by rw [state, binding]; rfl, by rw [binding]; rfl,
    by rw [binding]; rfl, by rw [binding]; exact nofun, fun _ => state⟩

/-! ## What an event keeps of a channel -/

/-- The channel is not LATCHED while S decides it (R91). -/
def Channel.Exempt (c : Channel) : Prop :=
  c.engine.state = .latched → c.result.map (·.layer) ≠ some .s

/-- The channel stays in order, no smoke decision finds it LATCHED, and without the supply it does not start to
travel. -/
structure Channel.KeepsMotion (supplyOk : Bool) (rec : ChannelRecord) (c d : Channel) : Prop where
  inOrder : c.InOrder rec → d.InOrder rec
  exempt : c.Exempt → d.Exempt
  travels : supplyOk = false → c.engine.state.travels = false → d.engine.state.travels = false

section Channels

variable {supplyOk : Bool} {rec : ChannelRecord} {c d : Channel}

theorem Channel.KeepsMotion.refl (supplyOk : Bool) (rec : ChannelRecord) (c : Channel) :
    c.KeepsMotion supplyOk rec c := ⟨id, id, fun _ => id⟩

theorem Channel.KeepsMotion.trans {e : Channel} (h : c.KeepsMotion supplyOk rec d)
    (k : d.KeepsMotion supplyOk rec e) : c.KeepsMotion supplyOk rec e :=
  ⟨k.inOrder ∘ h.inOrder, k.exempt ∘ h.exempt, fun out => k.travels out ∘ h.travels out⟩

theorem Channel.InOrder.of_same (h : c.InOrder rec) (engine : d.engine = c.engine)
    (binding : d.binding = c.binding) : d.InOrder rec := by
  obtain ⟨stack, result, e, b⟩ := d
  obtain rfl : e = c.engine := engine
  obtain rfl : b = c.binding := binding
  exact ⟨h.engine, h.status, h.serial, h.counted, h.misses, h.unused⟩

/-- A change of the stack alone. -/
theorem Channel.KeepsMotion.of_same (result : d.result = c.result) (engine : d.engine = c.engine)
    (binding : d.binding = c.binding) : c.KeepsMotion supplyOk rec d where
  inOrder h := h.of_same engine binding
  exempt h := by unfold Channel.Exempt; rw [engine, result]; exact h
  travels _ still := by rwa [engine]

/-- An event that finds the channel BOUND, and leaves it so. -/
theorem Channel.KeepsMotion.of_bound (isBound : c.InOrder rec → c.engine.state.isBound = true)
    (engine : c.engine.Keeps supplyOk d.engine) (binding : c.binding.InForce → d.binding.InForce)
    (exempt : c.Exempt → d.Exempt) : c.KeepsMotion supplyOk rec d where
  inOrder h := by
    obtain ⟨bound, inForce, used⟩ := h.bound (isBound h)
    exact Channel.inOrder_of_bound (engine.bound bound) (binding inForce) used
  exempt := exempt
  travels := engine.travels

/-- An event on the engine that does nothing to one that is not bound. -/
theorem Channel.KeepsMotion.of_engine (engine : c.engine.Keeps supplyOk d.engine)
    (rests : c.engine.state.isBound = false → d.engine = c.engine) (binding : d.binding = c.binding)
    (exempt : c.Exempt → d.Exempt) : c.KeepsMotion supplyOk rec d where
  inOrder h := by
    cases isBound : c.engine.state.isBound
    · exact h.of_same (rests isBound) binding
    · exact (of_bound (fun _ => isBound) engine (fun inForce => binding ▸ inForce) exempt).inOrder h
  exempt := exempt
  travels := engine.travels

theorem Channel.exempt_of_not_latched (h : c.engine.state ≠ .latched) : c.Exempt :=
  fun latched => absurd latched h

/-- An engine that is LATCHED no more than it was, under the same result. -/
theorem Channel.Exempt.of_result (h : c.Exempt) (result : d.result = c.result)
    (latched : d.result.map (·.layer) = some .s → d.engine.state = .latched → c.engine.state = .latched) :
    d.Exempt :=
  fun now smoke => h (latched smoke now) (result ▸ smoke)

end Channels

section Channels

variable (ctx : Ctx) (rec : ChannelRecord) (c : Channel)

/-! ### Demand (R18 to R20) -/

theorem Channel.place_keepsMotion (supplyOk : Bool) (l : Layer) (cell : Option Cell) :
    c.KeepsMotion supplyOk rec (c.place rec l cell) :=
  .of_same (c.place_result ..) (c.place_engine ..) (c.place_binding ..)

theorem Channel.recompose_keepsMotion : c.KeepsMotion ctx.supplyOk rec (c.recompose ctx rec) := by
  refine .of_engine (c.engine.handOver_keeps ctx rec c.result _)
    (c.engine.handOver_of_not_bound ctx rec c.result _) rfl fun exempt latched smoke => ?_
  obtain ⟨before, decided⟩ := c.engine.handOver_latched ctx rec c.result _ (Option.some.inj smoke) latched
  exact exempt before decided

theorem Channel.settle_keepsMotion (wind : Bool) (old : Stack) :
    c.KeepsMotion ctx.supplyOk rec (c.settle ctx rec wind old) := by
  unfold Channel.settle
  split
  · exact c.recompose_keepsMotion ctx rec
  · exact .refl _ rec c

theorem Channel.write_keepsMotion (l : Layer) (cell : Option Cell) :
    c.KeepsMotion ctx.supplyOk rec (c.write ctx rec l cell) :=
  (c.place_keepsMotion rec _ l cell).trans (Channel.settle_keepsMotion ..)

/-! ### The move test (R77, R82, R89, R93, R95) -/

theorem Channel.moveTest_cases :
    ∃ e, c.moveTest ctx rec = { c with engine := e } ∧ c.engine.Keeps ctx.supplyOk e
      ∧ e.state ≠ .latched := by
  unfold Channel.moveTest
  split
  next r _ => exact ⟨_, rfl, c.engine.moveTest_keeps ctx rec r.target, c.engine.moveTest_not_latched ctx rec r.target⟩
  next => exact ⟨_, rfl, .of_still (fun h => h.carried.idle) rfl, nofun⟩

theorem Channel.moveTest_keepsMotion (isBound : c.engine.state.isBound = true) :
    c.KeepsMotion ctx.supplyOk rec (c.moveTest ctx rec) := by
  obtain ⟨e, tested, keeps, notLatched⟩ := c.moveTest_cases ctx rec
  exact tested ▸ .of_bound (fun _ => isBound) keeps id fun _ => Channel.exempt_of_not_latched notLatched

theorem Channel.supplyBack_keepsMotion : c.KeepsMotion ctx.supplyOk rec (c.supplyBack ctx rec) := by
  unfold Channel.supplyBack
  split
  next held => exact c.moveTest_keepsMotion ctx rec (by rw [held]; rfl)
  next => exact .refl _ rec c

theorem Engine.clearCount_keeps (supplyOk : Bool) (e : Engine) :
    e.Keeps supplyOk { e with retryCount := 0 } where
  bound h :=
    { inOrder :=
        { h.inOrder with
          count := Nat.zero_le _
          lost := fun lost => absurd (h.isBound.symm.trans (congrArg EngineState.isBound lost)) nofun
          unbound := fun unbound =>
            absurd (h.isBound.symm.trans (congrArg EngineState.isBound unbound)) nofun }
      isBound := h.isBound }
  travels _ := id

theorem Channel.clear_keepsMotion : c.KeepsMotion ctx.supplyOk rec (c.clear ctx rec) := by
  unfold Channel.clear
  split
  next latched =>
    have isBound : c.engine.state.isBound = true := by rw [latched]; rfl
    have cleared : c.KeepsMotion ctx.supplyOk rec (c.onEngine fun e => { e with retryCount := 0 }) :=
      .of_bound (fun _ => isBound) (c.engine.clearCount_keeps _) id id
    exact cleared.trans (Channel.moveTest_keepsMotion _ _ _ isBound)
  next => exact .refl _ rec c

/-! ### The lamp (R98) and the supply (R94) -/

theorem Engine.InOrder.lamp {e : Engine} (h : e.InOrder) (lamp : Option Lamp) :
    ({ e with lampOverride := lamp }).InOrder :=
  { h with
    unbound := fun unbound => by rw [h.unbound unbound] }

theorem Channel.lamp_keepsMotion (supplyOk : Bool) (lamp : Option Lamp) :
    c.KeepsMotion supplyOk rec (c.onEngine fun e => { e with lampOverride := lamp }) where
  inOrder h := { h with engine := h.engine.lamp lamp }
  exempt := id
  travels _ := id

theorem Channel.supplyOut_keepsMotion (supplyOk : Bool) :
    c.KeepsMotion supplyOk rec (c.onEngine Engine.supplyOut) := by
  obtain ⟨isBound, holds⟩ | ⟨-, kept⟩ := c.engine.supplyOut_cases
  · refine .of_bound (fun _ => isBound) ?_ id fun _ => Channel.exempt_of_not_latched ?_
    · exact (holds ▸ .of_still (fun h => h.carried.hold) rfl : c.engine.Keeps supplyOk c.engine.supplyOut)
    · exact (holds ▸ nofun : c.engine.supplyOut.state ≠ .latched)
  · exact .of_same rfl kept rfl

/-! ### Answers and misses (R71, R78, R96, R111 to R114) -/

theorem Engine.settled_keeps (supplyOk : Bool) (e : Engine) :
    e.Keeps supplyOk { e with stopOwed := false } where
  bound h :=
    { inOrder :=
        { h.inOrder with
          moving := fun _ => rfl
          lost := fun lost => ⟨(h.inOrder.lost lost).1, rfl⟩
          unbound := fun unbound =>
            absurd (h.isBound.symm.trans (congrArg EngineState.isBound unbound)) nofun }
      isBound := h.isBound }
  travels _ := id

/-- The miss count of a BOUND channel is set (R111, R113). -/
theorem Channel.count_keepsMotion (supplyOk : Bool) (status : c.binding.status = .bound) {k : Nat}
    (few : k ≤ 2) :
    c.KeepsMotion supplyOk rec { c with binding := { c.binding with misses := some k } } :=
  .of_bound (fun h => h.isBound_iff.mpr status) (.refl _ _)
    (fun b => ⟨b.status, b.serial, k, rfl, few⟩) id

theorem Channel.heard_status (a : Answer) (command : DriveCommand) :
    (c.heard ctx rec a command).binding.status = c.binding.status := by
  unfold Channel.heard
  dsimp only
  split <;> simp [Channel.onEngine]

/-- An answer of the bound drive before it is judged (R111). -/
theorem Channel.heard_keepsMotion (a : Answer) (command : DriveCommand)
    (status : c.binding.status = .bound) :
    c.KeepsMotion ctx.supplyOk rec (c.heard ctx rec a command) := by
  have written := (c.count_keepsMotion rec ctx.supplyOk status (Nat.zero_le 2)).trans
    (Channel.write_keepsMotion ctx rec _ .m (keyCell a.key))
  unfold Channel.heard
  dsimp only
  split
  · refine written.trans (.of_bound (fun h => h.isBound_iff.mpr ?_) (Engine.settled_keeps _ _) id id)
    rw [Channel.write_binding]
    exact status
  · exact written

/-- The judgement of an answer of the bound drive (R80, R82). -/
theorem Channel.judge_keepsMotion (supplyOk : Bool) (now : Nat) (n : ChannelNo) (a : Answer)
    (status : c.binding.status = .bound) :
    c.KeepsMotion supplyOk rec
      { c with engine := (c.engine.judge now n rec c.result a).engine } :=
  .of_bound (fun h => h.isBound_iff.mpr status) (Engine.judge_keeps now n rec a supplyOk c.result) id
    fun exempt => exempt.of_result rfl (Engine.judge_latched now n rec a)

/-- The third miss in a row (R71, R96, R113). -/
theorem Channel.lose_keepsMotion (status : c.binding.status = .bound) :
    c.KeepsMotion ctx.supplyOk rec (c.lose ctx rec) := by
  have lost : c.KeepsMotion ctx.supplyOk rec
      { c with
        binding := { c.binding with status := .lost, misses := none }
        engine := c.engine.lose } := by
    refine ⟨fun h => ?_, fun _ => Channel.exempt_of_not_latched nofun, fun _ _ => rfl⟩
    obtain ⟨bound, ⟨-, serial, -⟩, used⟩ := h.bound (h.isBound_iff.mpr status)
    exact
      { engine := bound.carried.lose
        status := rfl
        serial := serial
        counted := rfl
        misses := nofun
        unused := fun unused => absurd (used.symm.trans unused) nofun }
  exact lost.trans (Channel.write_keepsMotion ctx rec _ .m none)

theorem Engine.bind_bound (a : Answer) (e : Engine) : (e.bind a).Bound :=
  Engine.Carried.atRest (e := { e.record a with retryCount := 0 }) ⟨rfl, Nat.zero_le _⟩ rfl rfl rfl false

/-- The engine of a channel that an answer binds (R78, R114), whatever it was. -/
theorem Channel.bind_cases (a : Answer) :
    (c.bind ctx rec a).engine.Bound ∧ (c.bind ctx rec a).engine.state ≠ .latched
      ∧ (ctx.supplyOk = false → (c.bind ctx rec a).engine.state.travels = false) := by
  obtain ⟨e, tested, keeps, notLatched⟩ :=
    ((c.writeKey ctx rec a.key).onEngine (Engine.bind a)).moveTest_cases ctx rec
  have engine : (c.bind ctx rec a).engine = e := congrArg Channel.engine tested
  rw [engine]
  exact ⟨keeps.bound (Engine.bind_bound a _), notLatched, fun out => keeps.travels out rfl⟩

theorem Channel.bind_inOrder (a : Answer) (used : rec.inUse = true) : (c.bind ctx rec a).InOrder rec :=
  Channel.inOrder_of_bound (c.bind_cases ctx rec a).1 ⟨rfl, rfl, 0, rfl, Nat.zero_le 2⟩ used

end Channels

/-! ## The part -/

/-- Each of the three laws goes over from the one state to the other. -/
structure State.KeepsMotionLaws (s t : State) : Prop where
  engine : s.EngineLaw → t.EngineLaw
  smoke : s.SmokeLaw → t.SmokeLaw
  hold : s.HoldLaw → t.HoldLaw

theorem State.KeepsMotionLaws.refl (s : State) : s.KeepsMotionLaws s := ⟨id, id, id⟩

theorem State.KeepsMotionLaws.trans {s t u : State} (h : s.KeepsMotionLaws t)
    (k : t.KeepsMotionLaws u) : s.KeepsMotionLaws u :=
  ⟨k.engine ∘ h.engine, k.smoke ∘ h.smoke, k.hold ∘ h.hold⟩

theorem State.exchangeInOrder_iff (s : State) :
    s.exchangeInOrder = true
      ↔ ∀ x n, s.branch.exchange = some x → x.kind = .channel n true →
          (s.record n).inUse = true ∧ x.poll.station = (s.record n).station := by
  unfold State.exchangeInOrder
  split
  next n poll start inProgress =>
    rw [inProgress, Bool.and_eq_true, decide_eq_true_iff]
    refine ⟨?_, fun law => law _ n rfl rfl⟩
    rintro law _ _ ⟨⟩ ⟨⟩
    exact law
  next other =>
    refine iff_of_true rfl fun x n inProgress kind => ?_
    obtain ⟨_, poll, start⟩ := x
    exact absurd (kind ▸ inProgress) (other n poll start)

/-- An event under the same set: the order of the channels may rest on that of the exchange in progress. -/
theorem State.KeepsMotionLaws.of_active {s t : State} (active : t.store.active = s.store.active)
    (exchange : s.exchangeInOrder = true → t.exchangeInOrder = true)
    (inOrder : s.exchangeInOrder = true →
      ∀ n, (s.channels.get n).InOrder (s.record n) → (t.channels.get n).InOrder (s.record n))
    (exempt : ∀ n, (s.channels.get n).Exempt → (t.channels.get n).Exempt) (hold : s.HoldLaw → t.HoldLaw) :
    s.KeepsMotionLaws t where
  engine := by
    simp only [State.engineLaw_iff, State.record_of_active active]
    exact fun ⟨order, law⟩ => ⟨exchange order, fun n => inOrder order n (law n)⟩
  smoke law n := exempt n (law n)
  hold := hold

theorem State.exchangeInOrder_of_same {s t : State} (active : t.store.active = s.store.active)
    (exchange : t.branch.exchange = s.branch.exchange) (h : s.exchangeInOrder = true) :
    t.exchangeInOrder = true := by
  rw [State.exchangeInOrder_iff] at h ⊢
  simpa only [exchange, State.record_of_active active] using h

theorem State.exchangeInOrder_of_none {s : State} (h : s.branch.exchange = none) :
    s.exchangeInOrder = true :=
  s.exchangeInOrder_iff.mpr fun _ _ inProgress => absurd (h.symm.trans inProgress) nofun

/-- An event that leaves the set, the channels, the exchange and the supply state as they are. -/
theorem State.KeepsMotionLaws.of_blocks {s t : State} (active : t.store.active = s.store.active)
    (channels : t.channels = s.channels) (exchange : t.branch.exchange = s.branch.exchange)
    (supply : t.supply.state = s.supply.state) : s.KeepsMotionLaws t :=
  .of_active active (State.exchangeInOrder_of_same active exchange) (fun _ _ => by rw [channels]; exact id)
    (fun _ => by rw [channels]; exact id) (by simp only [State.HoldLaw, channels, supply, imp_self])

section Part

variable (s : State)

theorem State.keepsMotion_setChannels (t : Table Channel 16)
    (h : ∀ n, (s.channels.get n).KeepsMotion s.ctx.supplyOk (s.record n) (t.get n)) :
    s.KeepsMotionLaws (s.setChannels t) :=
  .of_active rfl id (fun _ n => (h n).inOrder) (fun n => (h n).exempt)
    fun law out n => (h n).travels (decide_eq_false out) (law out n)

theorem State.keepsMotion_mapChannels (f : ChannelNo → ChannelRecord → Channel → Channel)
    (h : ∀ n c, Channel.KeepsMotion s.ctx.supplyOk (s.record n) c (f n (s.record n) c)) :
    s.KeepsMotionLaws (s.mapChannels f) :=
  s.keepsMotion_setChannels _ fun n => by rw [Table.get_mapIdx]; exact h n _

theorem State.keepsMotion_setChannel (n : ChannelNo) (d : Channel)
    (h : (s.channels.get n).KeepsMotion s.ctx.supplyOk (s.record n) d) :
    s.KeepsMotionLaws (s.setChannels (s.channels.set n d)) := by
  refine s.keepsMotion_setChannels _ fun m => ?_
  rw [Table.get_set]
  split
  next here => exact here ▸ h
  next => exact .refl _ _ _

theorem State.keepsMotion_mapChannel (n : ChannelNo) (f : ChannelRecord → Channel → Channel)
    (h : (s.channels.get n).KeepsMotion s.ctx.supplyOk (s.record n)
      (f (s.record n) (s.channels.get n))) :
    s.KeepsMotionLaws (s.mapChannel n f) :=
  s.keepsMotion_setChannel n _ h

theorem State.keepsMotion_settle (old : State) : s.KeepsMotionLaws (s.settle old) :=
  s.keepsMotion_setChannels _ fun n => by
    rw [Table.get_mapIdx]; exact Channel.settle_keepsMotion ..

/-- A change of the supply holds every channel that travels, or frees those held (R94, R95). -/
theorem State.keepsMotion_changeSupply (u : Supply) : s.KeepsMotionLaws (s.changeSupply u) := by
  unfold State.changeSupply
  dsimp only
  split
  · have channel := fun n => (s.channels.get n).supplyOut_keepsMotion (s.record n) true
    refine .of_active rfl id (fun _ n => ?_) (fun n => ?_) fun _ _ n => ?_ <;> rw [State.mapChannels_get]
    · exact (channel n).inOrder
    · exact (channel n).exempt
    · exact Engine.supplyOut_still _
  next stays =>
    split
    next returns =>
      refine .of_active rfl id (fun _ n => ?_) (fun n => ?_) fun _ out => absurd returns.2 out
        <;> rw [State.mapChannels_get]
      · exact (Channel.supplyBack_keepsMotion ..).inOrder
      · exact (Channel.supplyBack_keepsMotion _ ((s.setSupply u).record n) _).exempt
    next =>
      exact .of_active rfl id (fun _ _ => id) (fun _ => id)
        fun law out n => law (fun wasOk => stays ⟨wasOk, out⟩) n

/-- A node reset, and power-on, leave every channel as power-on does (R101, R125). -/
theorem State.KeepsMotionLaws.of_powerOn {t : State} (exchange : t.branch.exchange = none)
    (engine : ∀ n, (t.channels.get n).engine = Engine.powerOn)
    (binding : ∀ n, (t.channels.get n).binding = Binding.none) : s.KeepsMotionLaws t where
  engine _ := t.engineLaw_iff.mpr ⟨State.exchangeInOrder_of_none exchange,
    fun n => Channel.inOrder_of_powerOn _ (engine n) (binding n)⟩
  smoke _ n := Channel.exempt_of_not_latched (by rw [engine]; exact nofun)
  hold _ _ n := by rw [engine]; rfl

theorem State.keepsMotion_nodeReset : s.KeepsMotionLaws s.nodeReset := by
  have channel (n : ChannelNo) : s.nodeReset.channels.get n = resetChannel s (s.record n) (s.channels.get n) :=
    Table.get_mapIdx _ _ _
  exact .of_powerOn s rfl (fun n => by rw [channel]; rfl) fun n => by rw [channel]; rfl

theorem State.keepsMotion_powerOn (straps : Nat) (rate : LineRate) (contact : Level) :
    s.KeepsMotionLaws (s.powerOn straps rate contact) := by
  have channel (n : ChannelNo) : (s.powerOn straps rate contact).channels.get n = Channel.powerOn :=
    Table.get_fill _ n
  exact .of_powerOn s rfl (fun n => by rw [channel]; rfl) fun n => by rw [channel]; rfl

end Part

/-! ## A commit (R99, R100, R110, R124) -/

section Commit

variable (ctx : Ctx) (zone : ZoneUnit) (n : ChannelNo) (old rec : ChannelRecord) (c : Channel)

/-- Everything that a commit can do to the engine and binding of a channel: end the binding, leave engine and
binding as they are, or carry a bound engine across. -/
theorem commitChannel_cases :
    let d := commitChannel ctx zone n old rec c
    (d.engine = Engine.powerOn ∧ d.binding = Binding.none)
      ∨ (old.inUse = rec.inUse ∧ d.binding = c.binding
        ∧ ((d.engine = c.engine ∧ (c.engine.state.isBound = false ∨ d.result = none))
          ∨ (c.engine.state.isBound = true ∧ ∃ r, d.result = some r
              ∧ d.engine = c.engine.commit ctx old rec c.result r))) := by
  intro d
  cases changed : bindingChanged old rec
  · refine .inr ⟨inUse_of_not_bindingChanged changed, ?_, ?_⟩
    · simp only [d, commitChannel, changed]
      split <;> rfl
    · cases used : rec.inUse
      · exact .inl (by simp [d, commitChannel, used, changed])
      · cases isBound : c.engine.state.isBound
        · exact .inl (by simp [d, commitChannel, commitEngine, used, changed, isBound])
        · exact .inr (by simp [d, commitChannel, commitEngine, used, changed, isBound])
  · refine .inl ?_
    simp only [d, commitChannel, commitEngine, changed]
    split <;> exact ⟨rfl, rfl⟩

variable {old rec c}

theorem Channel.InOrder.of_inUse (h : c.InOrder old) (same : old.inUse = rec.inUse) : c.InOrder rec :=
  { h with unused := fun unused => h.unused (same.trans unused) }

theorem Channel.InOrder.commit (h : c.InOrder old) :
    (commitChannel ctx zone n old rec c).InOrder rec := by
  obtain ⟨engine, binding⟩ | ⟨same, binding, ⟨engine, -⟩ | ⟨isBound, r, -, engine⟩⟩ :=
    commitChannel_cases ctx zone n old rec c
  · exact Channel.inOrder_of_powerOn rec engine binding
  · exact (h.of_inUse same).of_same engine binding
  · obtain ⟨bound, inForce, used⟩ := (h.of_inUse same).bound isBound
    refine Channel.inOrder_of_bound ?_ (binding ▸ inForce) used
    exact engine ▸ (c.engine.commit_keeps ctx rec c.result r old).bound bound

theorem Channel.Exempt.commit (h : c.Exempt) : (commitChannel ctx zone n old rec c).Exempt := by
  obtain ⟨engine, -⟩ | ⟨-, -, ⟨engine, unbound | absent⟩ | ⟨-, r, result, engine⟩⟩ :=
    commitChannel_cases ctx zone n old rec c
  · exact Channel.exempt_of_not_latched (by rw [engine]; exact nofun)
  · refine Channel.exempt_of_not_latched fun latched => ?_
    rw [engine] at latched
    exact absurd (unbound.symm.trans (congrArg EngineState.isBound latched)) nofun
  · exact fun _ => by rw [absent]; exact nofun
  · intro latched smoke
    rw [engine] at latched
    rw [result] at smoke
    obtain ⟨before, decided⟩ :=
      c.engine.commit_latched ctx rec c.result r old (Option.some.inj smoke) latched
    exact h before decided

theorem commitChannel_travels (out : ctx.supplyOk = false) (still : c.engine.state.travels = false) :
    (commitChannel ctx zone n old rec c).engine.state.travels = false := by
  obtain ⟨engine, -⟩ | ⟨-, -, ⟨engine, -⟩ | ⟨-, r, -, engine⟩⟩ := commitChannel_cases ctx zone n old rec c
  · rw [engine]; rfl
  · rw [engine]; exact still
  · rw [engine]; exact (c.engine.commit_keeps ctx rec c.result r old).travels out still

end Commit

theorem station_of_not_bindingChanged {old rec : ChannelRecord} (h : bindingChanged old rec = false) :
    old.station = rec.station := by
  by_contra changed
  exact absurd (h.symm.trans ((bindingChanged_iff old rec).mpr (.inr (.inl changed)))) nofun

/-- An exchange that counts after the commit counted before it (R110). -/
theorem commitExchange_counted {old new : ConfigSet} {x : Exchange} {n : ChannelNo}
    (h : (commitExchange old new x).kind = .channel n true) :
    x.kind = .channel n true ∧ (commitExchange old new x).poll = x.poll
      ∧ bindingChanged (old.channels.get n) (new.channels.get n) = false := by
  obtain ⟨kind, poll, start⟩ := x
  cases kind with
  | channel m counted =>
    have same : m = n ∧ counted = true
        ∧ bindingChanged (old.channels.get m) (new.channels.get m) = false := by
      simpa [commitExchange] using h
    obtain ⟨rfl, rfl, kept⟩ := same
    exact ⟨rfl, rfl, kept⟩
  | farewell => cases h
  | discovery => cases h

/-- The exchange in progress still counts only where its channel's binding fields are unchanged (R110). -/
theorem State.exchangeInOrder_of_commit {s t : State} {new : ConfigSet} (h : s.exchangeInOrder = true)
    (active : t.store.active = new)
    (exchange : t.branch.exchange = s.branch.exchange.map (commitExchange s.store.active new)) :
    t.exchangeInOrder = true := by
  rw [State.exchangeInOrder_iff] at h ⊢
  rintro y n after counted
  obtain ⟨x, inProgress, rfl⟩ := Option.map_eq_some_iff.mp (exchange ▸ after)
  obtain ⟨kind, poll, kept⟩ := commitExchange_counted counted
  obtain ⟨used, station⟩ := h x n inProgress kind
  rw [poll, State.record, active]
  exact ⟨(inUse_of_not_bindingChanged kept).symm.trans used,
    station.trans (station_of_not_bindingChanged kept)⟩

/-- A commit before the supply's return. -/
theorem State.keepsMotion_of_commit {s t : State} {new : ConfigSet} (active : t.store.active = new)
    (exchange : t.branch.exchange = s.branch.exchange.map (commitExchange s.store.active new))
    (supply : t.supply.state = s.supply.state)
    (channel : ∀ n, t.channels.get n = commitChannel (s.commitCtx new) (s.commitZone new) n (s.record n)
      (new.channels.get n) (s.channels.get n)) : s.KeepsMotionLaws t where
  engine law := by
    rw [State.engineLaw_iff] at law ⊢
    refine ⟨State.exchangeInOrder_of_commit law.1 active exchange, fun n => ?_⟩
    rw [channel, State.record, active]
    exact (law.2 n).commit _ _ _
  smoke law n := by rw [channel]; exact Channel.Exempt.commit _ _ _ (law n)
  hold law out n := by
    rw [supply] at out
    rw [channel]
    exact commitChannel_travels _ _ _ (decide_eq_false out) (law out n)

theorem State.keepsMotion_commitSupply (s : State) : s.KeepsMotionLaws s.commitSupply := by
  unfold State.commitSupply
  split
  · exact s.keepsMotion_changeSupply _
  · exact .refl s

theorem State.keepsMotion_commit (s : State) (new : ConfigSet) : s.KeepsMotionLaws (s.commit new) := by
  refine State.KeepsMotionLaws.trans ?_ (State.keepsMotion_commitSupply _)
  refine State.keepsMotion_of_commit (new := new) rfl rfl ?_ fun n => ?_
  · exact (congrArg Supply.state (Supply.commit_eq s.node new.node s.supply) :)
  · exact Table.get_mapIdx _ _ _

end Sys2Proof.Machine

/-! SUPPORT. Every command keeps the laws of engines, smoke and supply: what each owner of a frame kind, each
timed event and each outcome on the branch line does to them, and the step lemma. -/

namespace Sys2Proof.Machine

section Events

variable (s : State)

/-! ## Blocks that no engine reads -/

theorem State.keepsMotion_setTrunk (t : Trunk) : s.KeepsMotionLaws (s.setTrunk t) :=
  .of_blocks rfl rfl rfl rfl

theorem State.keepsMotion_setPort (p : TrunkPort) (x : Port) : s.KeepsMotionLaws (s.setPort p x) :=
  s.keepsMotion_setTrunk _

theorem State.keepsMotion_setZone (z : ZoneUnit) : s.KeepsMotionLaws (s.setZone z) :=
  .of_blocks rfl rfl rfl rfl

theorem State.keepsMotion_setWeather (w : WeatherRuntime) : s.KeepsMotionLaws (s.setWeather w) :=
  .of_blocks rfl rfl rfl rfl

theorem State.keepsMotion_setFreeCount (k : Nat) : s.KeepsMotionLaws (s.setFreeCount k) :=
  .of_blocks rfl rfl rfl rfl

theorem State.keepsMotion_setStaged (x : Option Staged) : s.KeepsMotionLaws (s.setStaged x) :=
  .of_blocks rfl rfl rfl rfl

theorem State.keepsMotion_setNotice (x : NoticeUnit) : s.KeepsMotionLaws (s.setNotice x) :=
  .of_blocks rfl rfl rfl rfl

theorem State.keepsMotion_raise (x : Notice) : s.KeepsMotionLaws (s.raise x) :=
  s.keepsMotion_setNotice _

theorem State.keepsMotion_raiseOption (x : Option Notice) : s.KeepsMotionLaws (s.raiseOption x) :=
  .of_blocks (by simp) (by simp) (by simp) (by simp)

theorem State.keepsMotion_logError (k : ErrorKind) (port : ErrorPort) (c : Captured) :
    s.KeepsMotionLaws (s.logError k port c) :=
  .of_blocks (by simp) (by simp) (by simp) (by simp)

theorem State.keepsMotion_logOption (k : Option ErrorKind) (p : TrunkPort) (f : Frame) :
    s.KeepsMotionLaws (s.logOption k p f) :=
  .of_blocks (by simp) (by simp) (by simp) (by simp)

/-! ## Demand (R18, R19) -/

/-- A producer's cells are placed on the channels that a condition chooses. -/
theorem State.keepsMotion_place (l : Layer) (chosen : ChannelNo → ChannelRecord → Channel → Bool)
    (cell : ChannelRecord → Option Cell) :
    s.KeepsMotionLaws
      (s.mapChannels fun n rec c => if chosen n rec c then c.place rec l (cell rec) else c) :=
  s.keepsMotion_mapChannels _ fun n c => by
    split
    · exact c.place_keepsMotion _ _ l _
    · exact .refl _ _ c

theorem State.keepsMotion_recomputeSmoke (z : ZoneNo) : s.KeepsMotionLaws (s.recomputeSmoke z) :=
  s.keepsMotion_place .s (fun _ rec _ => rec.zones.getLsbD z.1) _

theorem State.keepsMotion_placeFallback : s.KeepsMotionLaws s.placeFallback :=
  s.keepsMotion_mapChannels _ fun _ c => c.place_keepsMotion _ _ .f _

theorem State.keepsMotion_changeWeather (w : WeatherRuntime) : s.KeepsMotionLaws (s.changeWeather w) :=
  (s.keepsMotion_setWeather w).trans
    (State.keepsMotion_mapChannels _ _ fun _ c => c.place_keepsMotion _ _ .w _)

theorem State.keepsMotion_zoneRuntime (z : ZoneNo) (r : ZoneRuntime) :
    s.KeepsMotionLaws ((s.setZoneRuntime z r).recomputeSmoke z) :=
  (s.keepsMotion_setZone _).trans (State.keepsMotion_recomputeSmoke _ z)

theorem State.keepsMotion_fallback (v : Supervision) : s.KeepsMotionLaws (s.fallbackEvent v) :=
  (s.keepsMotion_setZone _).trans (State.keepsMotion_placeFallback _)

theorem State.keepsMotion_hear (src : Nat) : s.KeepsMotionLaws (s.hear src) := by
  unfold State.hear
  split_ifs
  · exact s.keepsMotion_fallback _
  · exact s.keepsMotion_setZone _
  · exact .refl s
  · exact .refl s

theorem State.keepsMotion_supervise (src : Nat) : s.KeepsMotionLaws (s.supervise src) :=
  (s.keepsMotion_hear src).trans (State.keepsMotion_settle _ s)

theorem State.keepsMotion_acceptContact : s.KeepsMotionLaws s.acceptContact := by
  have accepted (c : Contact) := s.keepsMotion_setZone { s.zone with contact := c }
  unfold State.acceptContact
  dsimp only
  split
  · exact (((accepted _).trans (State.keepsMotion_zoneRuntime _ _ _)).trans
      (State.keepsMotion_raise _ .contact)).trans (State.keepsMotion_settle _ s)
  · exact accepted _

/-! ## Frames (R151 to R156) -/

/-- A reply, and the node reset that a discarded reply brings about (R155, R159). -/
theorem State.keepsMotion_reply (p : TrunkPort) (f : Frame) (a : Nat) (status : Status)
    (body : List Byte) (reset : Bool) : s.KeepsMotionLaws (s.reply p f a status body reset) := by
  unfold State.reply
  dsimp only
  split
  · split
    · exact (s.keepsMotion_setPort p _).trans (State.keepsMotion_setTrunk _ _)
    · exact s.keepsMotion_setPort p _
  · split
    · exact (s.keepsMotion_logError _ _ _).trans (State.keepsMotion_nodeReset _)
    · exact s.keepsMotion_logError _ _ _
  · split
    · exact s.keepsMotion_nodeReset
    · exact .refl s

/-- The forwarding of a frame and its line errors change no channel. -/
theorem State.keepsMotion_forwardOnly (p : TrunkPort) (f : Frame) :
    s.KeepsMotionLaws (s.forwardOnly p f) :=
  .of_blocks (by simp) (by simp) (by simp) (by simp)

theorem State.keepsMotion_actAndForward (p : TrunkPort) (f : Frame) (act : State → Acted) :
    (act s).state.KeepsMotionLaws (s.actAndForward p f act) := by
  have records := s.sameRecords_actAndForward p f act
  have channels : (s.actAndForward p f act).channels = (act s).state.channels := by
    unfold State.actAndForward
    dsimp only
    split
    · split <;> simp
    · simp
    · simp
  exact .of_blocks records.active channels (by rw [records.branch]) (by rw [records.supply])

end Events

/-- Whatever state it finds, the owner keeps the three laws. -/
def Owner.KeepsMotion (o : Owner) : Prop := ∀ s : State, s.KeepsMotionLaws (o.act s).state

/-- Panel supervision before the owner, and the settling after it, keep the laws too. -/
theorem Owner.KeepsMotion.run {o : Owner} (h : o.KeepsMotion) (src : Nat) (s : State) :
    s.KeepsMotionLaws (o.run src s).state := by
  unfold Owner.run
  split
  · exact ((s.keepsMotion_hear src).trans (h _)).trans (State.keepsMotion_settle _ s)
  · exact (s.keepsMotion_supervise src).trans (h _)

theorem State.keepsMotion_receive (s : State) (p : TrunkPort) (f : Frame) (owner : Option Owner)
    (h : ∀ o ∈ owner, o.KeepsMotion) : s.KeepsMotionLaws (s.receive p f owner) := by
  obtain ⟨-, repeater⟩ | ⟨-, loop⟩ | ⟨a, -, -, arrived⟩ := s.receive_cases p f owner
  · exact repeater ▸ s.keepsMotion_forwardOnly p f
  · exact loop ▸ s.keepsMotion_logError _ _ _
  · obtain ⟨-, o, ho, acts⟩ | ⟨-, -, acts⟩ | ⟨-, -, -, o, ho, acts⟩ | ⟨-, -, acts⟩ := arrived
    · have logged := ((h o ho).run f.src s).trans (State.keepsMotion_logOption _ (o.run f.src s).error p f)
      exact acts ▸ logged.trans (State.keepsMotion_reply _ p f a _ _ _)
    · exact acts ▸ s.keepsMotion_supervise f.src
    · exact acts ▸ ((h o ho).run f.src s).trans (s.keepsMotion_actAndForward p f _)
    · exact acts ▸ (s.keepsMotion_supervise f.src).trans (State.keepsMotion_forwardOnly _ p f)

/-! ## Owners -/

/-- An owner that leaves the state as it found it. -/
theorem Owner.keepsMotion_of_answer {o : Owner} (h : ∀ s, (o.act s).state = s) : o.KeepsMotion :=
  fun s => (h s).symm ▸ .refl s

theorem actZoneAlarm_keepsMotion (zone : Nat) (episode : Option Positions) :
    Owner.KeepsMotion ⟨true, actZoneAlarm zone episode⟩ := by
  intro s
  dsimp only [actZoneAlarm]
  split
  · exact .refl s
  · split
    · exact s.keepsMotion_zoneRuntime _ _
    · exact .refl s

theorem actZoneReset_keepsMotion (zone : Nat) : Owner.KeepsMotion ⟨true, actZoneReset zone⟩ := by
  intro s
  dsimp only [actZoneReset]
  split
  · exact .refl s
  · split
    · exact s.keepsMotion_setZone _
    · exact s.keepsMotion_zoneRuntime _ _

theorem actWeather_keepsMotion (src speed direction rain : Nat) :
    Owner.KeepsMotion ⟨true, actWeather src speed direction rain⟩ := by
  intro s
  dsimp only [actWeather]
  split
  · exact s.keepsMotion_changeWeather _
  · exact .refl s

theorem actGroupSet_keepsMotion (group position mode : Nat) :
    Owner.KeepsMotion ⟨true, actGroupSet group position mode⟩ := by
  intro s
  dsimp only [actGroupSet]
  split
  next g m _ _ =>
    exact s.keepsMotion_place .c (fun n _ _ => (s.store.active.groups.get g).getLsbD n.1)
      fun _ => some ⟨min position 1000, .group g, m⟩
  next => exact .refl s

theorem actGroupRelease_keepsMotion (group : Nat) :
    Owner.KeepsMotion ⟨true, actGroupRelease group⟩ := by
  intro s
  dsimp only [actGroupRelease]
  split
  next g _ =>
    exact s.keepsMotion_place .c
      (fun n _ c => (s.store.active.groups.get g).getLsbD n.1 && comfortOf g c.stack.c) fun _ => none
  next => exact .refl s

theorem actBadLength_keepsMotion (kind : FrameKind) : Owner.KeepsMotion ⟨false, actBadLength kind⟩ :=
  fun s => s.keepsMotion_setFreeCount _

theorem actSetWrite_keepsMotion (src table index : Nat) (record : List Byte) :
    Owner.KeepsMotion ⟨false, actSetWrite src table index record⟩ := by
  intro s
  dsimp only [actSetWrite]
  split
  · exact .refl s
  · split
    · exact s.keepsMotion_setFreeCount _
    · split
      · exact .refl s
      · split
        · exact .refl s
        · split <;> [exact s.keepsMotion_setStaged _; exact .refl s]

theorem actSetCommit_keepsMotion (src tally generation : Nat) :
    Owner.KeepsMotion ⟨true, actSetCommit src tally generation⟩ := by
  intro s
  dsimp only [actSetCommit]
  split
  · exact .refl s
  next x _ =>
    split_ifs
    any_goals exact .refl s
    split
    · exact .refl s
    · exact s.keepsMotion_commit x.set

/-- A READ only answers (R144). -/
theorem actRead_state (table index copy : Nat) (s : State) : (actRead table index copy s).state = s := by
  unfold actRead
  split
  · split_ifs <;> rfl
  · split
    · rfl
    · split_ifs <;> [rfl; rfl; (split <;> rfl); rfl]

/-- A QUERY only answers (R165). -/
theorem actQuery_state (subject index : Nat) (s : State) : (actQuery subject index s).state = s := by
  unfold actQuery
  split <;> [(split <;> rfl); (split <;> rfl); (split <;> rfl); rfl]

theorem actCollect_keepsMotion : Owner.KeepsMotion ⟨false, actCollect⟩ := by
  intro s
  dsimp only [actCollect]
  split <;> [exact s.keepsMotion_setNotice _; exact .refl s]

theorem actLampSet_keepsMotion (channel value : Nat) :
    Owner.KeepsMotion ⟨false, actLampSet channel value⟩ := by
  intro s
  dsimp only [actLampSet]
  split
  next n x _ _ =>
    exact s.keepsMotion_mapChannel n (fun _ c => c.onEngine fun e => { e with lampOverride := x })
      (Channel.lamp_keepsMotion (s.record n) (s.channels.get n) _ x)
  next => exact .refl s

theorem actChannelClear_keepsMotion (channel : Nat) :
    Owner.KeepsMotion ⟨false, actChannelClear channel⟩ := by
  intro s
  dsimp only [actChannelClear]
  split
  · exact s.keepsMotion_mapChannels _ fun _ c => c.clear_keepsMotion s.ctx _
  · split
    · exact s.keepsMotion_mapChannel _ _ (Channel.clear_keepsMotion s.ctx _ _)
    · exact .refl s

theorem actErrorClear_keepsMotion : Owner.KeepsMotion ⟨false, actErrorClear⟩ :=
  fun _ => .of_blocks rfl rfl rfl rfl

theorem actSupplyClear_keepsMotion : Owner.KeepsMotion ⟨false, actSupplyClear⟩ := by
  intro s
  dsimp only [actSupplyClear]
  split
  · dsimp only [Acted.ok]
    split <;> [exact .refl s; exact s.keepsMotion_changeSupply _]
  · exact .refl s

/-! ## The branch line (R104 to R121) -/

section BranchLine

variable (s : State) (n : ChannelNo)

/-- A change of the lists and the schedule of the Branch Master. -/
theorem State.keepsMotion_setBranch (b : Branch) (exchange : b.exchange = s.branch.exchange) :
    s.KeepsMotionLaws (s.setBranch b) :=
  .of_blocks rfl rfl exchange rfl

theorem State.keepsMotion_keepStrangers (keep : Stranger → Bool) :
    s.KeepsMotionLaws (s.keepStrangers keep) :=
  s.keepsMotion_setBranch _ rfl

theorem State.keepsMotion_addStranger (x : Stranger) : s.KeepsMotionLaws (s.addStranger x) := by
  unfold State.addStranger
  dsimp only
  split_ifs
  · exact .refl s
  · exact .of_blocks rfl rfl rfl rfl
  · exact .of_blocks rfl rfl rfl rfl
  · exact s.keepsMotion_setBranch _ rfl

theorem State.addStranger_channels (x : Stranger) : (s.addStranger x).channels = s.channels := by
  unfold State.addStranger
  dsimp only
  split_ifs <;> rfl

theorem State.keepsMotion_endExchange : s.KeepsMotionLaws s.endExchange :=
  .of_active rfl (fun _ => State.exchangeInOrder_of_none rfl) (fun _ _ => id) (fun _ => id) id

/-- A miss of a BOUND channel (R113). -/
theorem State.keepsMotion_miss (status : (s.channels.get n).binding.status = .bound) :
    s.KeepsMotionLaws (s.miss n) := by
  unfold State.miss
  dsimp only
  split
  · exact (s.keepsMotion_mapChannel n _ (Channel.lose_keepsMotion s.ctx _ _ status)).trans
      (State.keepsMotion_raise _ _)
  · exact s.keepsMotion_mapChannel n _ (Channel.count_keepsMotion _ _ _ status (by omega))

theorem State.keepsMotion_channelMiss : s.KeepsMotionLaws (s.channelMiss n) := by
  unfold State.channelMiss
  split
  next status => exact s.keepsMotion_miss n status
  next => exact .refl s

/-- An answer of the bound drive (R111). -/
theorem State.keepsMotion_boundAnswer (a : Answer) (command : DriveCommand)
    (status : (s.channels.get n).binding.status = .bound) :
    s.KeepsMotionLaws (s.boundAnswer n a command) := by
  refine (s.keepsMotion_setChannel n _ ?_).trans (State.keepsMotion_raiseOption _ _)
  have heard := (s.channels.get n).heard_keepsMotion s.ctx (s.record n) a command status
  refine heard.trans (Channel.judge_keepsMotion (s.record n) _ s.ctx.supplyOk s.now n a ?_)
  rw [Channel.heard_status]
  exact status

/-- The answer to an exchange that counts for a channel binds the channel, which is in use since the
exchange is in order (R107, R114). -/
theorem State.keepsMotion_bindChannel (a : Answer) {x : Exchange} (inProgress : s.branch.exchange = some x)
    (kind : x.kind = .channel n true) : s.KeepsMotionLaws (s.endExchange.bindChannel n a) := by
  have channel (m : ChannelNo) : (s.endExchange.bindChannel n a).channels.get m
      = if m = n then (s.channels.get n).bind s.ctx (s.record n) a else s.channels.get m :=
    (s.endExchange.keepStrangers fun x => decide (x ≠ ⟨a.station, a.serial⟩)).mapChannel_get n m
      fun rec c => c.bind s.endExchange.ctx rec a
  obtain ⟨-, notLatched, still⟩ := (s.channels.get n).bind_cases s.ctx (s.record n) a
  refine .of_active rfl (fun _ => State.exchangeInOrder_of_none rfl) (fun order m => ?_) (fun m => ?_)
    fun law out m => ?_ <;> rw [channel] <;> split
  next here =>
    obtain ⟨used, -⟩ := (s.exchangeInOrder_iff.mp order) x n inProgress kind
    exact fun _ => here ▸ Channel.bind_inOrder s.ctx (s.record n) _ a used
  next => exact id
  next => exact fun _ => Channel.exempt_of_not_latched notLatched
  next => exact id
  next => exact still (decide_eq_false out)
  next => exact law out m

/-- The end of an exchange that counts for a channel, with a valid answer (R111 to R115). -/
theorem State.keepsMotion_channelAnswer (a : Answer) (command : DriveCommand) {x : Exchange}
    (inProgress : s.branch.exchange = some x) (kind : x.kind = .channel n true) :
    s.KeepsMotionLaws (s.endExchange.channelAnswer n a command) := by
  have ended := s.keepsMotion_endExchange
  unfold State.channelAnswer
  dsimp only
  split
  next status =>
    split_ifs
    · exact ended.trans (State.keepsMotion_boundAnswer _ n a command status)
    · exact ended.trans (State.keepsMotion_miss _ n status)
    · refine (ended.trans (State.keepsMotion_addStranger _ _)).trans (State.keepsMotion_miss _ n ?_)
      rw [State.addStranger_channels]
      exact status
  next =>
    split
    · exact s.keepsMotion_bindChannel n a inProgress kind
    · exact ended.trans (State.keepsMotion_addStranger _ _)

theorem State.keepsMotion_goodAnswer (x : Exchange) (a : Answer) (inProgress : s.branch.exchange = some x) :
    s.KeepsMotionLaws (s.endExchange.goodAnswer x a) := by
  have ended := s.keepsMotion_endExchange
  unfold State.goodAnswer
  split
  next n kind => exact s.keepsMotion_channelAnswer n a _ inProgress kind
  next => exact ended
  next => exact ended
  next =>
    unfold State.discoveryAnswer
    split <;> [exact ended; exact ended.trans (State.keepsMotion_addStranger _ _)]

theorem State.keepsMotion_garbledAnswer (x : Exchange) : s.KeepsMotionLaws (s.garbledAnswer x) := by
  have logged := s.keepsMotion_logError .branchCrc .branch (.station x.poll.station)
  unfold State.garbledAnswer
  dsimp only
  split <;> [exact logged.trans (State.keepsMotion_channelMiss _ _); exact logged]

theorem State.keepsMotion_noAnswer (x : Exchange) : s.KeepsMotionLaws (s.noAnswer x) := by
  unfold State.noAnswer
  split
  · exact s.keepsMotion_channelMiss _
  · exact .refl s
  · exact .refl s
  · exact s.keepsMotion_keepStrangers _

theorem State.keepsMotion_closeWindow : s.KeepsMotionLaws s.closeWindow := by
  unfold State.closeWindow
  split
  · exact .refl s
  · exact s.keepsMotion_endExchange.trans (State.keepsMotion_noAnswer _ _)

/-- A slot's poll of a channel opens an exchange in order: the channel is in use and the poll names its
station (R107). -/
theorem State.exchangeInOrder_serve (slot : Slot) (start : Nat) (h : s.exchangeInOrder = true) :
    (s.setBranch (s.serve slot start)).exchangeInOrder = true := by
  cases slot with
  | idle => exact h
  | channel n =>
    cases used : (s.record n).inUse
    · have skipped : s.serve (.channel n) start = { s.branch with sent := none } := by
        simp [State.serve, used]
      rw [skipped]
      exact h
    · have opened : s.serve (.channel n) start
          = s.branch.open' (.channel n true) (channelPoll (s.record n) (s.channels.get n)) start := by
        simp [State.serve, used]
      rw [opened, State.exchangeInOrder_iff]
      rintro _ _ ⟨⟩ ⟨⟩
      exact ⟨used, rfl⟩
  | discover =>
    rw [State.exchangeInOrder_iff]
    unfold State.serve
    dsimp only
    split
    · rintro _ n ⟨⟩ ⟨⟩
    · rintro _ n ⟨⟩ ⟨⟩

theorem State.keepsMotion_startSlot (index : Fin 24) (start : Nat) :
    s.KeepsMotionLaws (s.startSlot index start) := by
  have scheduled (schedule : Schedule) (running : Table Slot 24) :
      s.KeepsMotionLaws (s.setBranch { s.branch with schedule, running }) :=
    s.keepsMotion_setBranch _ rfl
  exact (scheduled _ _).trans
    (.of_active rfl (State.exchangeInOrder_serve _ _ start) (fun _ _ => id) (fun _ => id) id)

end BranchLine

theorem State.keepsMotion_endTransmission (s : State) (p : TrunkPort) :
    s.KeepsMotionLaws (s.endTransmission p) := by
  unfold State.endTransmission
  split
  · exact .refl s
  · dsimp only
    split
    · exact (s.keepsMotion_setPort p _).trans (State.keepsMotion_nodeReset _)
    · exact s.keepsMotion_setPort p _

/-- A dwell or a retry wait that is due ends in the move test of a bound engine (R82, R89). -/
theorem State.keepsMotion_moveTest (s : State) (n : ChannelNo)
    (isBound : (s.channels.get n).engine.state.isBound = true) :
    s.KeepsMotionLaws (s.mapChannel n fun rec c => c.moveTest s.ctx rec) :=
  s.keepsMotion_mapChannel n _ (Channel.moveTest_keepsMotion s.ctx _ _ isBound)

theorem Engine.isBound_of_dwellDue {now : Nat} {rec : ChannelRecord} {e : Engine}
    (due : e.dwellDue now rec = true) : e.state.isBound = true := by
  unfold Engine.dwellDue at due
  split at due
  next dwells _ => rw [dwells]; rfl
  next => cases due

theorem Engine.isBound_of_retryDue {now : Nat} {rec : ChannelRecord} {e : Engine}
    (due : e.retryDue now rec = true) : e.state.isBound = true := by
  unfold Engine.retryDue at due
  split at due
  next waits _ => rw [waits]; rfl
  next => cases due

/-! ## Commands -/

/-- Whatever next state the command answers, the three laws go over to it. -/
def State.OutcomeKeepsMotion (s : State) (o : Host.Outcome State Fault Refusal) : Prop :=
  ∀ t, o = .next t → s.KeepsMotionLaws t

theorem State.KeepsMotionLaws.next {s t : State} (h : s.KeepsMotionLaws t) :
    s.OutcomeKeepsMotion (.next t) :=
  fun _ same => Host.Outcome.next.inj same ▸ h

/-- An event that has not come about changes nothing. -/
theorem State.keepsMotion_whenDue {s t : State} (p : Prop) [Decidable p] (h : p → s.KeepsMotionLaws t) :
    s.OutcomeKeepsMotion (if p then .next t else .next s) := by
  split
  next due => exact (h due).next
  next => exact (State.KeepsMotionLaws.refl s).next

theorem Owner.KeepsMotion.receive {o : Owner} (h : o.KeepsMotion) (s : State) (p : TrunkPort) (f : Frame) :
    s.OutcomeKeepsMotion (.next (s.receive p f (some o))) :=
  (s.keepsMotion_receive p f (some o) fun _ same => Option.some.inj same ▸ h).next

theorem execFrame_keepsMotion (c : Instr) (s : State) : s.OutcomeKeepsMotion (execFrame c s) := by
  cases c
  case unknownKind => exact (Owner.keepsMotion_of_answer fun _ => rfl).receive s _ _
  case zoneAlarm => exact (actZoneAlarm_keepsMotion _ _).receive s _ _
  case zoneReset => exact (actZoneReset_keepsMotion _).receive s _ _
  case weather => exact (actWeather_keepsMotion _ _ _ _).receive s _ _
  case groupSet => exact (actGroupSet_keepsMotion _ _ _).receive s _ _
  case groupRelease => exact (actGroupRelease_keepsMotion _).receive s _ _
  case setWrite => exact (actSetWrite_keepsMotion _ _ _ _).receive s _ _
  case setCommit => exact (actSetCommit_keepsMotion _ _ _).receive s _ _
  case setDiscard => exact Owner.KeepsMotion.receive (fun t => t.keepsMotion_setStaged none) s _ _
  case read => exact (Owner.keepsMotion_of_answer (actRead_state _ _ _)).receive s _ _
  case query => exact (Owner.keepsMotion_of_answer (actQuery_state _ _)).receive s _ _
  case collect => exact actCollect_keepsMotion.receive s _ _
  case lampSet => exact (actLampSet_keepsMotion _ _).receive s _ _
  case channelClear => exact (actChannelClear_keepsMotion _).receive s _ _
  case errorClear => exact actErrorClear_keepsMotion.receive s _ _
  case supplyClear => exact actSupplyClear_keepsMotion.receive s _ _
  case nodeReset => exact (Owner.keepsMotion_of_answer fun _ => rfl).receive s _ _
  all_goals exact (State.KeepsMotionLaws.refl s).next

theorem ownerOfRest_keepsMotion (f : Frame) : ∀ o ∈ ownerOfRest f, o.KeepsMotion := by
  unfold ownerOfRest
  split
  · exact nofun
  next k _ _ => exact fun o same => Option.some.inj same ▸ actBadLength_keepsMotion k
  · exact nofun

theorem execFrameReception_keepsMotion (p : TrunkPort) (period : Nat) (chars : List Byte) (s : State) :
    s.OutcomeKeepsMotion (execFrameReception p period chars s) := by
  unfold execFrameReception
  split
  · exact (State.KeepsMotionLaws.refl s).next
  · split
    · exact (s.keepsMotion_logError _ _ _).next
    · exact (s.keepsMotion_logError _ _ _).next
    · split
      · exact execFrame_keepsMotion _ s
      · exact (s.keepsMotion_receive p _ _ (ownerOfRest_keepsMotion _)).next

theorem execSlotStart_keepsMotion (s : State) : s.OutcomeKeepsMotion (execSlotStart s) := by
  have started (index : Fin 24) (start : Nat) := s.keepsMotion_closeWindow.trans
    (State.keepsMotion_startSlot _ index start)
  unfold execSlotStart
  split
  · exact (State.KeepsMotionLaws.refl s).next
  · exact State.keepsMotion_whenDue _ fun _ => started _ _
  · exact State.keepsMotion_whenDue _ fun _ => started _ _

theorem execBranchReception_keepsMotion (chars : List Byte) (s : State) :
    s.OutcomeKeepsMotion (execBranchReception chars s) := by
  unfold execBranchReception
  split
  · exact (State.KeepsMotionLaws.refl s).next
  next x inProgress =>
    split
    · split
      · exact (s.keepsMotion_goodAnswer x _ inProgress).next
      · exact (s.keepsMotion_endExchange.trans (State.keepsMotion_garbledAnswer _ x)).next
    · exact (State.KeepsMotionLaws.refl s).next

theorem execAnswerWindowClose_keepsMotion (s : State) :
    s.OutcomeKeepsMotion (execAnswerWindowClose s) := by
  unfold execAnswerWindowClose
  split
  · exact (State.KeepsMotionLaws.refl s).next
  · exact State.keepsMotion_whenDue _ fun _ => s.keepsMotion_closeWindow

theorem execSupplySample_keepsMotion (reading : Nat) (s : State) :
    s.OutcomeKeepsMotion (execSupplySample reading s) := by
  unfold execSupplySample
  split
  · dsimp only
    split
    next same => exact State.KeepsMotionLaws.next (.of_blocks rfl rfl rfl same)
    next => exact (s.keepsMotion_changeSupply _).next
  · exact (State.KeepsMotionLaws.refl s).next

theorem execLinkDown_keepsMotion (p : TrunkPort) (s : State) :
    s.OutcomeKeepsMotion (execLinkDown p s) := by
  unfold execLinkDown
  dsimp only
  split
  · exact ((s.keepsMotion_setPort p _).trans (State.keepsMotion_nodeReset _)).next
  · exact (s.keepsMotion_setPort p _).next

theorem execNodeResetTakesEffect_keepsMotion (s : State) :
    s.OutcomeKeepsMotion (execNodeResetTakesEffect s) := by
  unfold execNodeResetTakesEffect
  split
  · exact (s.keepsMotion_endTransmission .up).next
  · exact State.keepsMotion_whenDue _ fun _ => s.keepsMotion_endTransmission .down

/-- The frame commands keep the laws by their owners, the others by their event. -/
theorem exec_keepsMotion (c : Instr) (s : State) : s.OutcomeKeepsMotion (exec c s) := by
  have frame := execFrame_keepsMotion c s
  have settled (w : WeatherRuntime) : s.KeepsMotionLaws ((s.changeWeather w).settle s) :=
    (s.keepsMotion_changeWeather w).trans (State.keepsMotion_settle _ s)
  cases c
  case powerOn => exact (s.keepsMotion_powerOn _ _ _).next
  case linkDown p => exact execLinkDown_keepsMotion p s
  case linkUp p => exact (s.keepsMotion_setPort p _).next
  case frameReception p period chars => exact execFrameReception_keepsMotion p period chars s
  case nodeResetTakesEffect => exact execNodeResetTakesEffect_keepsMotion s
  case transmissionEnd p => exact (s.keepsMotion_endTransmission p).next
  case transmissionStart p => exact State.keepsMotion_whenDue _ fun _ => s.keepsMotion_setPort p _
  case contactInputChange => exact (s.keepsMotion_setZone _).next
  case pendingChangeAccepted => exact State.keepsMotion_whenDue _ fun _ => s.keepsMotion_acceptContact
  case panelTimeout =>
    exact State.keepsMotion_whenDue _ fun _ =>
      (s.keepsMotion_fallback ⟨true, none⟩).trans (State.keepsMotion_settle _ s)
  case rainHoldExpiry => exact State.keepsMotion_whenDue _ fun _ => settled _
  case stormHoldExpiry => exact State.keepsMotion_whenDue _ fun _ => settled _
  case stationTimeout => exact State.keepsMotion_whenDue _ fun _ => settled _
  case dwellExpiry n =>
    exact State.keepsMotion_whenDue _ fun due => s.keepsMotion_moveTest n (Engine.isBound_of_dwellDue due)
  case retryExpiry n =>
    exact State.keepsMotion_whenDue _ fun due => s.keepsMotion_moveTest n (Engine.isBound_of_retryDue due)
  case supplySample reading => exact execSupplySample_keepsMotion reading s
  case slotStart => exact execSlotStart_keepsMotion s
  case branchReception chars => exact execBranchReception_keepsMotion chars s
  case answerWindowClose => exact execAnswerWindowClose_keepsMotion s
  all_goals exact frame

theorem step_keepsMotion (s : State) : s.OutcomeKeepsMotion (step s) := by
  unfold step
  split
  · exact State.KeepsMotionLaws.next (.of_blocks rfl rfl rfl rfl)
  next c rest _ =>
    have popped : s.KeepsMotionLaws (s.setPending rest) := .of_blocks rfl rfl rfl rfl
    exact fun t ran => popped.trans (exec_keepsMotion c _ t ran)

/-- Settles O55, by the step lemma. -/
theorem stepKeepsEngineLaw : Obligations.StepKeepsEngineLaw := fun s t law ran =>
  (step_keepsMotion s t ran).engine law

/-- Settles O56, by the step lemma: every command keeps each of the two laws. -/
theorem stepKeepsMotionLaws : Obligations.StepKeepsMotionLaws := fun s t ran =>
  ⟨(step_keepsMotion s t ran).smoke, (step_keepsMotion s t ran).hold⟩

end Sys2Proof.Machine

/-! SUPPORT. What ends an exchange on the branch line (R110 to R120), outcome by outcome: the Stranger List's
table, the answer that serves or binds a channel, and the misses that lose it. -/

namespace Sys2Proof.Machine

/-! ## The commands that end an exchange (R110) -/

section Exchanges

variable {s : State} {x : Exchange} {chars : List Byte}

/-- A valid answer within the window, its last millisecond included (assumption 21). -/
theorem exec_branchReception_of_valid (opened : s.branch.exchange = some x) (inTime : s.now ≤ x.start + 8)
    {a : Answer} (valid : validAnswer x.poll.station chars = some a) :
    exec (.branchReception chars) s = .next (s.endExchange.goodAnswer x a) := by
  simp [exec, execBranchReception, opened, Config.windowMs, inTime, valid]

/-- A garbled answer within the window. -/
theorem exec_branchReception_of_garbled (opened : s.branch.exchange = some x)
    (inTime : s.now ≤ x.start + 8) (garbled : validAnswer x.poll.station chars = none) :
    exec (.branchReception chars) s = .next (s.endExchange.garbledAnswer x) := by
  simp [exec, execBranchReception, opened, Config.windowMs, inTime, garbled]

/-- A reception after the window, or with no exchange in progress, is discarded. -/
theorem exec_branchReception_of_late
    (late : ∀ x, s.branch.exchange = some x → x.start + 8 < s.now) :
    exec (.branchReception chars) s = .next s := by
  change execBranchReception chars s = _
  unfold execBranchReception
  split
  · rfl
  next x opened => exact if_neg (Nat.not_le_of_lt (late x opened))

/-- The close of the window, due from its last millisecond on (assumption 21). -/
theorem exec_answerWindowClose_of_due (opened : s.branch.exchange = some x)
    (due : x.start + 8 ≤ s.now) :
    exec .answerWindowClose s = .next (s.endExchange.noAnswer x) := by
  simp [exec, execAnswerWindowClose, State.closeWindow, opened, Config.windowMs, due]

end Exchanges

/-! ## The Stranger List (R118, R120) -/

section Strangers

variable {s : State} {x : Stranger}

theorem State.addStranger_of_mem (known : x ∈ s.branch.strangers) : s.addStranger x = s := by
  simp [State.addStranger, known]

theorem State.addStranger_of_station (new : x ∉ s.branch.strangers)
    (station : ∃ y ∈ s.branch.strangers, y.station = x.station) :
    s.addStranger x
      = (s.setBranch
          { s.branch with
            strangers :=
              s.branch.strangers.filter (fun y => decide (y.station ≠ x.station)) ++ [x] }).raise
          (.stranger x.station) := by
  simp [State.addStranger, new, station]

theorem not_mem_of_station {l : List Stranger} (apart : ∀ y ∈ l, y.station ≠ x.station) : x ∉ l :=
  fun known => apart x known rfl

theorem State.addStranger_of_room (apart : ∀ y ∈ s.branch.strangers, y.station ≠ x.station)
    (room : s.branch.strangers.length < 8) :
    s.addStranger x
      = (s.setBranch { s.branch with strangers := s.branch.strangers ++ [x] }).raise
          (.stranger x.station) := by
  simpa [State.addStranger, not_mem_of_station apart, Config.strangerCapacity, room] using
    fun y known same => absurd same (apart y known)

theorem State.addStranger_of_full (apart : ∀ y ∈ s.branch.strangers, y.station ≠ x.station)
    (full : 8 ≤ s.branch.strangers.length) :
    s.addStranger x = s.setBranch { s.branch with overflow := true } := by
  simpa [State.addStranger, not_mem_of_station apart, Config.strangerCapacity, Nat.not_lt_of_le full]
    using fun y known same => absurd same (apart y known)

/-- A stranger touches the Stranger List and the notices alone. -/
theorem State.addStranger_blocks (s : State) (x : Stranger) :
    ∃ b u, s.addStranger x = (s.setBranch b).setNotice u := by
  unfold State.addStranger
  dsimp only
  split_ifs
  · exact ⟨s.branch, s.notice, rfl⟩
  · exact ⟨_, _, rfl⟩
  · exact ⟨_, _, rfl⟩
  · exact ⟨{ s.branch with overflow := true }, s.notice, rfl⟩

end Strangers

/-- Settles O50: R120's table case by case, and the three outcomes of a discovery window. -/
theorem discoveryAnswerFillsStrangerList : Obligations.DiscoveryAnswerFillsStrangerList := by
  refine ⟨fun x s => ⟨State.addStranger_of_mem, State.addStranger_of_station,
    State.addStranger_of_room, State.addStranger_of_full⟩, fun poll start chars s opened inTime => ?_⟩
  refine ⟨exec_branchReception_of_garbled opened inTime, fun ans valid => ?_⟩
  have answered := exec_branchReception_of_valid opened inTime valid
  have welcomed : accepted s.store.active ans.station ans.serial = true
      ↔ ∃ n, (s.record n).inUse = true ∧ (s.record n).station = ans.station
          ∧ ∀ y, (s.record n).serial = some y → y = ans.serial := by
    simp only [accepted_iff, and_assoc, State.record]
  refine ⟨fun welcome => answered.trans ?_, fun unwelcome => answered.trans ?_⟩
  · exact congrArg _ (if_pos (welcomed.mpr welcome))
  · exact congrArg _ (if_neg fun taken => unwelcome (welcomed.mp taken))

end Sys2Proof.Machine

/-! SUPPORT. What the answers and misses of a channel's exchange do to the channel (R70, R71, R78, R96, R111 to
R115). -/

namespace Sys2Proof.Machine

/-! ## A write of one cell (R1, R18) -/

section Writes

variable {ctx : Ctx} {rec : ChannelRecord} {c : Channel} {l : Layer} {cell : Option Cell}

theorem Channel.write_of_same (there : c.stack.get l = cell) : c.write ctx rec l cell = c :=
  there ▸ c.write_same ctx rec l

/-- A cell that the stack does not have yet composes the channel. -/
theorem Channel.write_of_new (used : rec.inUse = true) (new : c.stack.get l ≠ cell) :
    c.write ctx rec l cell
      = ({ c with stack := c.stack.set cell l } : Channel).recompose ctx rec := by
  have changed : c.stack.set cell l ≠ c.stack := fun same =>
    new (by rw [← same, Stack.get_set_self])
  rw [Channel.write, Channel.place_used _ _ _ _ used]
  exact Channel.settle_of_changed ctx rec false c.stack _ used (.inl changed)

/-- A write hands nothing over to an engine that is not bound (R79). -/
theorem Channel.write_engine_of_not_bound (h : c.engine.state.isBound = false) :
    (c.write ctx rec l cell).engine = c.engine := by
  unfold Channel.write Channel.settle
  split
  · simp only [Channel.recompose, Channel.place_engine]
    exact Engine.handOver_of_not_bound (h := h) ..
  · exact Channel.place_engine ..

end Writes

/-! ## The third miss (R71, R96, R113) -/

section Loss

variable (ctx : Ctx) {rec : ChannelRecord} (c : Channel)

@[simp] theorem Channel.lose_binding :
    (c.lose ctx rec).binding = ⟨.lost, c.binding.serial, none⟩ :=
  Channel.write_binding ..

theorem Channel.lose_stack (used : rec.inUse = true) :
    (c.lose ctx rec).stack = { c.stack with m := none } :=
  Channel.write_stack _ _ _ _ _ used

@[simp] theorem Channel.lose_engine : (c.lose ctx rec).engine = c.engine.lose :=
  Channel.write_engine_of_not_bound rfl

theorem Channel.lose_result_of_absent (absent : c.stack.m = none) :
    (c.lose ctx rec).result = c.result := by
  rw [Channel.lose, Channel.write_of_same (by exact absent)]

theorem Channel.lose_result_of_present (used : rec.inUse = true) (present : c.stack.m ≠ none) :
    (c.lose ctx rec).result = some (compose ctx.set ctx.weather rec (c.lose ctx rec).stack) := by
  rw [Channel.lose, Channel.write_of_new used (by exact present)]
  rfl

end Loss

/-! ## Misses (R113) -/

/-- What a miss of channel `n`, as `s` holds it, makes of the state `u` that its exchange left: the miss counted, or
at the third the channel LOST. -/
def State.Missed (s : State) (n : ChannelNo) (u : State) (outcome : Host.Outcome State Fault Refusal) : Prop :=
  let c := s.channels.get n
  (∀ k, c.binding.misses = some k → k ≤ 1 →
      outcome
        = .next (u.setChannels
            (s.channels.set n { c with binding := { c.binding with misses := some (k + 1) } })))
    ∧ (c.binding.misses = some 2 → (s.record n).inUse = true →
        outcome = .next ((u.setChannels (s.channels.set n (c.lose s.ctx (s.record n)))).raise (.lost n)))

section Misses

variable {s u : State} {n : ChannelNo}

/-- A miss in a state that the end of the exchange left: the channels are as before, and so is what a
composition reads. -/
theorem State.missed_of_miss (channels : u.channels = s.channels) (store : u.store = s.store)
    (ctx : u.ctx = s.ctx) : s.Missed n u (.next (u.miss n)) := by
  have record : u.record n = s.record n := by rw [State.record, store]; rfl
  refine ⟨fun k misses few => congrArg _ ?_, fun misses used => congrArg _ ?_⟩
  · simp [State.miss, channels, misses, Nat.not_le_of_lt (Nat.lt_succ_of_le few), State.mapChannel,
      Table.modify]
  · simp [State.miss, channels, misses, ctx, record, State.mapChannel, Table.modify]

theorem State.missed_of_channelMiss (status : (s.channels.get n).binding.status = .bound)
    (channels : u.channels = s.channels) (store : u.store = s.store) (ctx : u.ctx = s.ctx) :
    s.Missed n u (.next (u.channelMiss n)) := by
  rw [State.channelMiss, if_pos (channels ▸ status)]
  exact State.missed_of_miss channels store ctx

end Misses

/-! ## A valid answer of a channel's exchange, case by case (R111, R112, R114, R115) -/

theorem acceptable_iff (rec : ChannelRecord) (x : Serial) :
    acceptable rec x = true ↔ ∀ y, rec.serial = some y → y = x := by
  simp [acceptable, Option.all_eq_true]

theorem acceptable_eq_false_iff (rec : ChannelRecord) (x : Serial) :
    acceptable rec x = false ↔ ∃ y, rec.serial = some y ∧ y ≠ x := by
  rw [← Bool.not_eq_true, acceptable_iff]
  push Not
  rfl

section ChannelAnswer

variable {s : State} {n : ChannelNo} {a : Answer} (command : DriveCommand)

theorem State.channelAnswer_of_serial (status : (s.channels.get n).binding.status = .bound)
    (serial : (s.channels.get n).binding.serial = some a.serial) :
    s.channelAnswer n a command = s.boundAnswer n a command := by
  simp [State.channelAnswer, status, serial]

section Bound

variable (status : (s.channels.get n).binding.status = .bound)
  (foreign : (s.channels.get n).binding.serial ≠ some a.serial)

include status foreign

theorem State.channelAnswer_of_foreign_accepted
    (accepts : ∀ y, (s.record n).serial = some y → y = a.serial) :
    s.channelAnswer n a command = s.miss n := by
  simp [State.channelAnswer, status, foreign, (acceptable_iff _ _).mpr accepts]

theorem State.channelAnswer_of_foreign_refused
    (refuses : ∃ y, (s.record n).serial = some y ∧ y ≠ a.serial) :
    s.channelAnswer n a command = (s.addStranger ⟨a.station, a.serial⟩).miss n := by
  simp [State.channelAnswer, status, foreign, (acceptable_eq_false_iff _ _).mpr refuses]

end Bound

section Unbound

variable (status : (s.channels.get n).binding.status ≠ .bound)

include status

theorem State.channelAnswer_of_not_bound :
    s.channelAnswer n a command
      = if acceptable (s.record n) a.serial then s.bindChannel n a
        else s.addStranger ⟨a.station, a.serial⟩ := by
  unfold State.channelAnswer
  dsimp only
  split
  next bound => exact absurd bound status
  next => rfl

theorem State.channelAnswer_of_accepted
    (accepts : ∀ y, (s.record n).serial = some y → y = a.serial) :
    s.channelAnswer n a command = s.bindChannel n a :=
  (State.channelAnswer_of_not_bound command status).trans
    (if_pos ((acceptable_iff _ _).mpr accepts))

theorem State.channelAnswer_of_refused
    (refuses : ∃ y, (s.record n).serial = some y ∧ y ≠ a.serial) :
    s.channelAnswer n a command = s.addStranger ⟨a.station, a.serial⟩ :=
  (State.channelAnswer_of_not_bound command status).trans
    (if_neg (Bool.not_eq_true _ ▸ (acceptable_eq_false_iff _ _).mpr refuses))

end Unbound

end ChannelAnswer

/-- A stranger changes nothing that a miss reads. -/
theorem State.missed_of_addStranger {s u : State} {n : ChannelNo} (x : Stranger)
    (channels : u.channels = s.channels) (store : u.store = s.store) (ctx : u.ctx = s.ctx) :
    s.Missed n (u.addStranger x) (.next ((u.addStranger x).miss n)) := by
  obtain ⟨b, v, stranger⟩ := u.addStranger_blocks x
  rw [stranger]
  exact State.missed_of_miss channels store ctx

theorem State.logError_ctx (s : State) (k : ErrorKind) (p : ErrorPort) (x : Captured) :
    (s.logError k p x).ctx = s.ctx := by
  simp [State.ctx]

/-- Settles O49: each kind of miss leaves a state in which the channel's miss is counted, and the other closes
end the exchange alone. -/
theorem missesAreCountedToLoss : Obligations.MissesAreCountedToLoss := by
  intro poll start s closed
  refine ⟨fun n opened => ?channel, fun opened due => ?discovery, fun opened due => ?others⟩
  case channel =>
    intro c r missed
    have known {u : State} {outcome : Host.Outcome State Fault Refusal} (h : s.Missed n u outcome) :
        missed u outcome := by
      refine ⟨h.1, fun third used => ?_⟩
      exact ⟨_, h.2 third used, c.lose_binding s.ctx, c.lose_stack s.ctx used,
        c.lose_result_of_absent s.ctx, c.lose_result_of_present s.ctx used, c.lose_engine s.ctx⟩
    refine ⟨fun status due => ?_, fun status due => ?_, fun status inTime chars => ⟨fun garbled => ?_,
      fun ans valid foreign => ?_⟩⟩
    · rw [exec_answerWindowClose_of_due opened due]
      exact congrArg _ (if_neg status)
    · rw [exec_answerWindowClose_of_due opened due]
      exact known (State.missed_of_channelMiss (u := closed) status rfl rfl rfl)
    · rw [exec_branchReception_of_garbled opened inTime garbled]
      exact known (State.missed_of_channelMiss status (closed.logError_channels ..)
        (closed.logError_store ..) (closed.logError_ctx ..))
    · have answered := exec_branchReception_of_valid opened inTime valid
      refine ⟨fun accepts => ?_, fun refuses => ?_⟩
      · have miss := State.channelAnswer_of_foreign_accepted (s := closed) poll.command status foreign accepts
        rw [answered.trans (congrArg _ miss)]
        exact known (State.missed_of_miss (u := closed) rfl rfl rfl)
      · have miss := State.channelAnswer_of_foreign_refused (s := closed) poll.command status foreign refuses
        rw [answered.trans (congrArg _ miss)]
        exact known (State.missed_of_addStranger (u := closed) _ rfl rfl rfl)
  case discovery => exact exec_answerWindowClose_of_due opened due
  case others =>
    obtain opened | ⟨n, opened⟩ := opened
    all_goals exact exec_answerWindowClose_of_due opened due

end Sys2Proof.Machine

/-! SUPPORT. The answers that serve and that bind a channel (R70, R78, R111, R114), and the statement of the first
reception of a window. -/

namespace Sys2Proof.Machine

/-! ## The answer of the bound drive (R111) -/

theorem DriveCommand.settles_iff (command : DriveCommand) :
    command.settles = true ↔ command = .stop ∨ ∃ mm, command = .relieve mm := by
  cases command <;> simp [DriveCommand.settles]

/-- The delivery of a stop or relief that the poll carried (R111). -/
def Engine.delivered (command : DriveCommand) (e : Engine) : Engine :=
  if command.settles then { e with stopOwed := false } else e

theorem Channel.heard_of_serial (ctx : Ctx) (rec : ChannelRecord) {a : Answer} (command : DriveCommand)
    {c : Channel} (status : c.binding.status = .bound) (serial : c.binding.serial = some a.serial) :
    c.heard ctx rec a command
      = (({ c with binding := ⟨.bound, some a.serial, some 0⟩ } : Channel).write ctx rec .m
          (keyCell a.key)).onEngine (Engine.delivered command) := by
  unfold Channel.heard Engine.delivered
  rw [← status, ← serial]
  cases command.settles <;> rfl

/-- The engine judges the answer in the channel that the steps before leave (assumption 19). -/
theorem State.boundAnswer_of_heard {s : State} {n : ChannelNo} {a : Answer} {command : DriveCommand}
    {d : Channel} (heard : (s.channels.get n).heard s.ctx (s.record n) a command = d) :
    s.boundAnswer n a command
      = (s.setChannels (s.channels.set n
          { d with engine := (d.engine.judge s.now n (s.record n) d.result a).engine })).raiseOption
          (d.engine.judge s.now n (s.record n) d.result a).notice :=
  heard ▸ rfl

/-! ## The answer that binds a channel (R78, R114) -/

section Bind

variable {ctx : Ctx} {rec : ChannelRecord} {a : Answer} {c : Channel}

theorem Channel.writeKey_engine (k : Key) : (c.writeKey ctx rec k).engine = c.engine := by
  unfold Channel.writeKey
  split <;> rfl

theorem Channel.bind_stack (used : rec.inUse = true) :
    (c.bind ctx rec a).stack = { c.stack with m := keyCell a.key } :=
  (c.bind_demand ctx rec a).1.trans (c.writeKey_stack ctx rec a.key used)

theorem Channel.bind_result_of_same (same : c.stack.m = keyCell a.key) :
    (c.bind ctx rec a).result = c.result := by
  rw [(c.bind_demand ctx rec a).2, Channel.writeKey, if_neg fun new => new.2 same]

theorem Channel.bind_result_of_new (used : rec.inUse = true) (new : c.stack.m ≠ keyCell a.key) :
    (c.bind ctx rec a).result = some (compose ctx.set ctx.weather rec (c.bind ctx rec a).stack) := by
  rw [(c.bind_demand ctx rec a).1, (c.bind_demand ctx rec a).2, Channel.writeKey, if_pos ⟨used, new⟩]

/-- Bound, the engine is tested against the channel's target, with the answer's position and lamp recorded (R78). -/
theorem Channel.bind_engine_of_result {r : Result} (result : (c.bind ctx rec a).result = some r) :
    (c.bind ctx rec a).engine = (c.engine.bind a).moveTest ctx rec r.target := by
  rw [(c.bind_demand ctx rec a).2] at result
  have tested := Channel.moveTest_of_result ctx rec
    (c := (c.writeKey ctx rec a.key).onEngine (Engine.bind a)) result
  rw [← c.writeKey_engine (ctx := ctx) (rec := rec) a.key]
  exact congrArg Channel.engine tested

theorem Channel.bind_engine_of_no_result (result : (c.bind ctx rec a).result = none) :
    (c.bind ctx rec a).engine = (c.engine.bind a).rest .idle := by
  rw [(c.bind_demand ctx rec a).2] at result
  have tested : ((c.writeKey ctx rec a.key).onEngine (Engine.bind a)).moveTest ctx rec
      = ((c.writeKey ctx rec a.key).onEngine (Engine.bind a)).onEngine fun e => e.rest .idle := by
    simp [Channel.moveTest, Channel.onEngine, result]
  rw [← c.writeKey_engine (ctx := ctx) (rec := rec) a.key]
  exact congrArg Channel.engine tested

theorem Channel.bind_engine_frame :
    (c.bind ctx rec a).engine.position = some a.position
      ∧ (c.bind ctx rec a).engine.retryCount = 0 := by
  cases result : (c.bind ctx rec a).result with
  | none => exact Channel.bind_engine_of_no_result result ▸ ⟨rfl, rfl⟩
  | some r =>
    obtain ⟨-, position, count, -⟩ := (c.engine.bind a).moveTest_frame ctx rec r.target
    exact Channel.bind_engine_of_result result ▸ ⟨position, count⟩

end Bind

/-- Settles O48: the exchange that counts by the channel's binding and the answer's serial, the others by the
answer's form alone. -/
theorem answersBindAndServeChannels : Obligations.AnswersBindAndServeChannels := by
  refine ⟨fun n poll start chars s opened inTime used => ?channel, fun chars s =>
    ⟨fun kind poll start opened inTime uncounted => ?others, exec_branchReception_of_late⟩⟩
  case channel =>
    intro c closed key
    have cell (a : Answer) : key a = keyCell a.key := by cases h : a.key <;> simp [key, h, keyCell]
    have answered {ans : Answer} (valid : validAnswer poll.station chars = some ans) :=
      exec_branchReception_of_valid opened inTime valid
    refine ⟨fun ans valid status serial => ?served, fun ans valid status accepts => ?bound,
      fun ans valid status refuses => ?refused, fun garbled status => ?garbled⟩
    case served =>
      intro heard settled
      have recorded := Channel.heard_of_serial s.ctx (s.record n) poll.command status serial
      rw [← cell] at recorded
      refine ⟨heard.engine.delivered poll.command,
        fun delivers => if_pos ((DriveCommand.settles_iff _).mpr delivers),
        fun carries => if_neg fun delivers => carries ((DriveCommand.settles_iff _).mp delivers),
        Channel.write_stack _ _ _ _ _ used, (answered valid).trans (congrArg _ ?_)⟩
      exact (State.channelAnswer_of_serial (s := closed) poll.command status serial).trans
        (State.boundAnswer_of_heard (s := closed) recorded)
    case bound =>
      refine ⟨c.bind s.ctx (s.record n) ans, ?_, rfl, ?_, ?_, ?_, ?_, Channel.bind_engine_frame.1,
        Channel.bind_engine_frame.2, fun r result => ?_⟩
      · exact (answered valid).trans (congrArg _
          (State.channelAnswer_of_accepted (s := closed) poll.command status accepts))
      · exact cell ans ▸ Channel.bind_stack used
      · exact cell ans ▸ Channel.bind_result_of_same
      · exact cell ans ▸ Channel.bind_result_of_new used
      · exact (c.bind_cases s.ctx (s.record n) ans).1.isBound
      · rw [Channel.bind_engine_of_result result]
        exact Engine.moveTest_of_rest_eq _ rfl
    case refused =>
      exact (answered valid).trans (congrArg _
        (State.channelAnswer_of_refused (s := closed) poll.command status refuses))
    case garbled =>
      rw [exec_branchReception_of_garbled opened inTime garbled]
      refine congrArg _ (if_neg ?_)
      rwa [State.logError_channels]
  case others =>
    obtain rfl | ⟨n, rfl⟩ := uncounted
    all_goals exact ⟨fun ⟨ans, valid⟩ => exec_branchReception_of_valid opened inTime valid,
      exec_branchReception_of_garbled opened inTime⟩

end Sys2Proof.Machine

/-! SUPPORT. A drive's answer as characters and back (R69, R109, R110, R160, section 9.6). -/

namespace Sys2Proof.Machine

/-! ## Bytes and the check (section 9.6, R160) -/

theorem toNat_byte (n : Nat) : (byte n).toNat = n % 256 := BitVec.toNat_ofNat n 8

theorem val16_byte (n : Nat) : val16 (byte (n / 256)) (byte n) = n % 65536 := by
  simp only [val16, toNat_byte]
  omega

theorem val48_byte (n : Nat) :
    val48 (byte (n / 4294967296 / 256)) (byte (n / 4294967296)) (byte (n / 65536 / 256))
        (byte (n / 65536)) (byte (n / 256)) (byte n)
      = n % 281474976710656 := by
  simp only [val48, val32, val16_byte]
  omega

/-- Characters followed by their check have a good check, whatever they are. -/
theorem crcGood_append_crcBytes (body : List Byte) : crcGood (body ++ crcBytes body) = true := by
  have two : (body ++ crcBytes body).length - 2 = body.length := by simp [crcBytes, be16]
  rw [crcGood, two, List.drop_left, List.take_left, beq_self_eq_true]

/-! ## The last two bytes of an answer: its flags, its key and lamp -/

theorem getLsbD_flagByte (running openEnd closedEnd overtemperature supplyFault : Bool) :
    let b := byte (flagBit running 0 + flagBit openEnd 1 + flagBit closedEnd 2
      + flagBit overtemperature 3 + flagBit supplyFault 4)
    b.getLsbD 0 = running ∧ b.getLsbD 1 = openEnd ∧ b.getLsbD 2 = closedEnd
      ∧ b.getLsbD 3 = overtemperature ∧ b.getLsbD 4 = supplyFault := by
  revert running openEnd closedEnd overtemperature supplyFault
  decide

theorem bitField_pair {low high : Nat} (hl : low < 4) (hh : high < 4) :
    bitField (byte (low + 4 * high)) 0 2 = low ∧ bitField (byte (low + 4 * high)) 2 2 = high := by
  simp only [bitField, toNat_byte]
  omega

theorem Key.code_lt (k : Key) : k.code < 4 := by cases k <;> decide

theorem keyOf_code (k : Key) : keyOf k.code = k := by cases k <;> rfl

theorem ReportedLamp.code_lt : ∀ l : ReportedLamp, l.code < 4
  | .lamp l => by cases l <;> decide
  | .unlisted => by decide

theorem reportedLampOf_code : ∀ l : ReportedLamp, reportedLampOf l.code = l
  | .lamp l => by cases l <;> rfl
  | .unlisted => rfl

/-! ## Reading an answer (R109, R110) -/

/-- The fields of an answer in range, each within what its characters spell. -/
structure Answer.InForm (a : Answer) : Prop where
  station : a.station < 256
  serial : a.serial ≠ 0
  position : a.position ≤ 1023
  current : a.current ≤ 4000

theorem Answer.chars_length (a : Answer) : a.chars.length = 15 := rfl

theorem Answer.chars_check (a : Answer) : a.chars.drop 13 = crcBytes (a.chars.take 13) := rfl

theorem answerOf_chars {a : Answer} (h : a.InForm) : answerOf a.chars = some a := by
  have good : crcGood a.chars = true := crcGood_append_crcBytes a.body
  have serial : a.serial.toNat % 281474976710656 = a.serial.toNat := Nat.mod_eq_of_lt a.serial.isLt
  have present : a.serial.toNat ≠ 0 := fun zero => h.serial (BitVec.eq_of_toNat_eq zero)
  have position : a.position % 65536 % 1024 = a.position := by have := h.position; omega
  have current : min (a.current % 65536 % 4096) 4000 = a.current := by have := h.current; omega
  have station : a.station % 256 = a.station := Nat.mod_eq_of_lt h.station
  obtain ⟨running, openEnd, closedEnd, hot, supplyFault⟩ :=
    getLsbD_flagByte a.running a.openEnd a.closedEnd a.overtemperature a.driveSupplyFault
  obtain ⟨key, lamp⟩ := bitField_pair a.key.code_lt a.lamp.code_lt
  change (if crcGood a.chars && val48 _ _ _ _ _ _ != 0 then some _ else none) = some a
  rw [val48_byte, good, serial, if_pos (by simpa using present)]
  simp only [val16_byte, toNat_byte, station, position, current, key, lamp, running, openEnd, closedEnd,
    hot, supplyFault, keyOf_code, reportedLampOf_code, BitVec.ofNat_toNat, BitVec.setWidth_eq]

theorem validAnswer_chars {a : Answer} (h : a.InForm) (station : Nat) :
    validAnswer station a.chars = if a.station = station then some a else none := by
  rw [validAnswer, answerOf_chars h]

/-- Settles O6: the characters read back as the answer, which is valid at its own station alone. -/
theorem answerCharactersReadBack : Obligations.AnswerCharactersReadBack := by
  intro a station serial position current
  have read := validAnswer_chars (a := a) ⟨station, serial, position, current⟩
  exact ⟨a.chars_length, a.chars_check, (read _).trans (if_pos rfl),
    fun other differs => (read _).trans (if_neg differs.symm)⟩

end Sys2Proof.Machine

/-! SUPPORT. The start of a slot: the search for an unclaimed station, the poll of each slot, and a poll's
characters (R74, R97, R105 to R108, R116, R117). -/

namespace Sys2Proof.Machine

/-! ## The first unclaimed station (R117) -/

/-- The station so many places after another, counting up and from 31 to 1. -/
def stationFrom (station places : Nat) : Nat := (station - 1 + places) % 31 + 1

theorem stationFrom_zero {station : Nat} (h : IsStation station) : stationFrom station 0 = station := by
  obtain ⟨low, high⟩ := h
  simp only [stationFrom]
  omega

theorem stationFrom_stationAfter {station : Nat} (h : IsStation station) (places : Nat) :
    stationFrom (stationAfter station) places = stationFrom station (places + 1) := by
  obtain ⟨low, high⟩ := h
  unfold stationFrom stationAfter
  split <;> omega

theorem stationFrom_injective (station : Nat) {i j : Nat} (hi : i < 31) (hj : j < 31)
    (same : stationFrom station i = stationFrom station j) : i = j := by
  simp only [stationFrom] at same
  omega

theorem claimed_eq_false_iff (set : ConfigSet) (station : Nat) :
    claimed set station = false
      ↔ ∀ n, (set.channels.get n).inUse = true → (set.channels.get n).station ≠ station := by
  simp [← Bool.not_eq_true, claimed_iff]

/-- Sixteen channels cannot claim the thirty-one stations. -/
theorem exists_unclaimed (set : ConfigSet) (station : Nat) :
    ∃ k < 31, claimed set (stationFrom station k) = false := by
  by_contra allClaimed
  have claims (k : Fin 31) : ∃ n : ChannelNo, (set.channels.get n).station = stationFrom station k := by
    have taken : claimed set (stationFrom station k) = true := by
      rw [← Bool.not_eq_false]
      exact fun free => allClaimed ⟨k, k.2, free⟩
    obtain ⟨n, -, names⟩ := (claimed_iff _ _).mp taken
    exact ⟨n, names⟩
  choose claimant names using claims
  have injective : Function.Injective claimant := fun i j same =>
    Fin.ext (stationFrom_injective station i.2 j.2 (by rw [← names, ← names, same]))
  exact absurd (Fintype.card_le_of_injective claimant injective) (by simp)

/-- The search stops at the first unclaimed station, where there is one within its steps. -/
theorem firstUnclaimed_of_exists (set : ConfigSet) (steps : Nat) {station : Nat} (h : IsStation station)
    (free : ∃ k < steps, claimed set (stationFrom station k) = false) :
    ∃ k, firstUnclaimed set steps station = stationFrom station k
      ∧ claimed set (stationFrom station k) = false
      ∧ ∀ j < k, claimed set (stationFrom station j) = true := by
  induction steps generalizing station with
  | zero => obtain ⟨k, none, -⟩ := free; exact absurd none (Nat.not_lt_zero k)
  | succ steps ih =>
    have here := stationFrom_zero h
    unfold firstUnclaimed
    split
    next taken =>
      obtain ⟨k, few, unclaimed⟩ := free
      have after : ∃ k < steps, claimed set (stationFrom (stationAfter station) k) = false := by
        cases k with
        | zero => rw [here] at unclaimed; exact absurd (unclaimed.symm.trans taken) nofun
        | succ k => exact ⟨k, Nat.lt_of_succ_lt_succ few, stationFrom_stationAfter h k ▸ unclaimed⟩
      obtain ⟨k, found, unclaimed, before⟩ := ih (isStation_stationAfter h) after
      rw [stationFrom_stationAfter h] at found unclaimed
      refine ⟨k + 1, found, unclaimed, fun j earlier => ?_⟩
      cases j with
      | zero => rwa [here]
      | succ j => exact stationFrom_stationAfter h j ▸ before j (Nat.lt_of_succ_lt_succ earlier)
    next unclaimed => exact ⟨0, here.symm, by rwa [here, ← Bool.not_eq_true], nofun⟩

theorem firstUnclaimed_isFirst (set : ConfigSet) {station : Nat} (h : IsStation station) :
    ∃ k, firstUnclaimed set 31 station = stationFrom station k
      ∧ claimed set (stationFrom station k) = false
      ∧ ∀ j < k, claimed set (stationFrom station j) = true :=
  firstUnclaimed_of_exists set 31 h (exists_unclaimed set station)

/-! ## The poll of a channel's slot (R74, R97, R107) -/

section Command

variable {rec : ChannelRecord} {target : Option Nat} {e : Engine}

theorem Engine.command_of_moving (moving : e.state = .moving) (t : Nat) :
    e.command rec (some t) = .goto (setpoint rec t) := by
  simp [Engine.command, moving]

/-- GOTO is the command of MOVING alone (R74). -/
theorem Engine.command_ne_goto (still : e.state ≠ .moving) (mm : Nat) :
    e.command rec target ≠ .goto mm := by
  unfold Engine.command
  split
  · nofun
  · nofun
  · nofun
  · nofun
  · split <;> nofun
  next moving => exact absurd moving still
  · split <;> [split <;> nofun; nofun]
  · split <;> [split <;> nofun; nofun]

theorem Engine.command_of_stopped
    (stopped : e.state = .unbound ∨ e.state = .lost ∨ e.state = .held ∨ e.state = .dwell) :
    e.command rec target = .stop := by
  obtain h | h | h | h := stopped <;> simp [Engine.command, h]

theorem Engine.command_of_idle (idle : e.state = .idle) :
    e.command rec target = if e.stopOwed = true then .stop else .hold := by
  simp [Engine.command, idle]

theorem Engine.command_of_fault (faulted : e.state = .retryWait ∨ e.state = .latched) :
    e.command rec target
      = if e.stopOwed = true then if 0 < rec.relieveMm then .relieve rec.relieveMm else .stop
        else .hold := by
  obtain h | h := faulted <;> simp [Engine.command, h]

end Command

theorem EngineState.isBound_iff (state : EngineState) :
    state.isBound = true ↔ state ≠ .unbound ∧ state ≠ .lost := by
  cases state <;> simp [EngineState.isBound]

/-- The lamp field is absent where the drive is not bound or reports the wanted lamp already (R97). -/
theorem Engine.lampField_eq (layer : Option Layer) (e : Engine) :
    e.lampField layer
      = if e.state = .unbound ∨ e.state = .lost ∨ e.reportedLamp = some (.lamp (e.wantedLamp layer)) then
          none
        else some (e.wantedLamp layer) := by
  have asked : (e.state.isBound = true ∧ e.reportedLamp ≠ some (.lamp (e.wantedLamp layer)))
      ↔ ¬ (e.state = .unbound ∨ e.state = .lost ∨ e.reportedLamp = some (.lamp (e.wantedLamp layer))) := by
    rw [EngineState.isBound_iff, not_or, not_or, and_assoc]
  simp only [Engine.lampField, asked, ite_not]

/-! ## Serving a slot (R107, R116, R117) -/

section Serve

variable (s : State) (slot : Slot) (start : Nat)

/-- The service of a slot leaves the schedule and the Stranger List. -/
theorem State.serve_frame :
    (s.serve slot start).schedule = s.branch.schedule ∧ (s.serve slot start).running = s.branch.running
      ∧ (s.serve slot start).strangers = s.branch.strangers
      ∧ (s.serve slot start).overflow = s.branch.overflow := by
  unfold State.serve
  split
  · exact ⟨rfl, rfl, rfl, rfl⟩
  · split <;> exact ⟨rfl, rfl, rfl, rfl⟩
  · split <;> exact ⟨rfl, rfl, rfl, rfl⟩

/-- Only a DISCOVER slot moves the pointer or takes a farewell. -/
theorem State.serve_frame_of_not_discover (other : slot ≠ .discover) :
    (s.serve slot start).pointer = s.branch.pointer
      ∧ (s.serve slot start).farewell = s.branch.farewell := by
  unfold State.serve
  split
  · exact ⟨rfl, rfl⟩
  · split <;> exact ⟨rfl, rfl⟩
  · exact absurd rfl other

theorem State.serve_of_unused {n : ChannelNo} (unused : (s.record n).inUse = false) :
    s.serve (.channel n) start = { s.branch with sent := none } := by
  simp [State.serve, unused]

theorem State.serve_of_used {n : ChannelNo} (used : (s.record n).inUse = true) :
    s.serve (.channel n) start
      = s.branch.open' (.channel n true) (channelPoll (s.record n) (s.channels.get n)) start := by
  simp [State.serve, used]

theorem State.serve_of_farewell {st : Nat} {rest : List Nat} (owed : s.branch.farewell = st :: rest) :
    s.serve .discover start
      = Branch.open' .farewell ⟨st, .stop, none⟩ start { s.branch with farewell := rest } := by
  simp [State.serve, owed]

theorem State.serve_of_discovery (clear : s.branch.farewell = []) :
    s.serve .discover start
      = Branch.open' .discovery ⟨firstUnclaimed s.store.active 31 s.branch.pointer, .stop, none⟩ start
          { s.branch with
            pointer :=
              firstUnclaimed s.store.active 31
                (stationAfter (firstUnclaimed s.store.active 31 s.branch.pointer)) } := by
  simp [State.serve, clear]

end Serve

/-! ## The start of a slot (R105, R106) -/

/-- The state in which a slot is served: the schedule at the slot, and the running table, which slot 0 takes from
the active set. -/
def State.beginSlot (index : Fin 24) (start : Nat) (table : Table Slot 24) (s : State) : State :=
  s.setBranch { s.branch with schedule := .slot index start, running := table }

theorem State.startSlot_eq (s : State) (index : Fin 24) (start : Nat) :
    let table := if index = 0 then s.store.active.cycle else s.branch.running
    s.startSlot index start
      = s.setBranch ((s.beginSlot index start table).serve (table.get index) start) := by
  have zero : index.1 = 0 ↔ index = 0 := Fin.val_eq_zero_iff
  simp only [State.startSlot, zero]
  rfl

/-- The slot or start period in progress has lasted 12 ms and its exchange is over. -/
theorem exec_slotStart_of_due {s : State} {since : Nat} {next : Fin 24}
    (slot : (s.branch.schedule = .starting since ∧ next = 0)
      ∨ ∃ index : Fin 24, s.branch.schedule = .slot index since ∧ next = index + 1)
    (due : since + 12 ≤ s.now) (ended : s.branch.exchange = none) :
    exec .slotStart s = .next (s.startSlot next (since + 12)) := by
  have closed : s.closeWindow = s := by simp [State.closeWindow, ended]
  obtain ⟨schedule, rfl⟩ | ⟨index, schedule, rfl⟩ := slot
  · simp [exec, execSlotStart, schedule, Config.slotMs, due, closed]
  · simp [exec, execSlotStart, schedule, Config.slotMs, due, closed]

/-- Settles O47: the slot begun is served by its kind, and a poll's characters by its fields. -/
theorem slotStartSendsPoll : Obligations.SlotStartSendsPoll := by
  refine ⟨fun since next s slot due ended => ?start, fun q => ?chars⟩
  case start =>
    intro table unclaimed after
    let begun := s.beginSlot next (since + 12) table
    obtain ⟨schedule, running, strangers, overflow⟩ := begun.serve_frame (table.get next) (since + 12)
    refine ⟨begun.serve (table.get next) (since + 12),
      (exec_slotStart_of_due slot due ended).trans (congrArg _ (s.startSlot_eq next (since + 12))),
      schedule, running, strangers, overflow, begun.serve_frame_of_not_discover _ _,
      fun idle => ?idle, fun n channel unused => ?unused, fun n channel used => ?used,
      fun discover st rest owed => ?farewell, fun discover clear low high => ?discovery⟩
    case idle => exact idle ▸ ⟨rfl, ended⟩
    case unused =>
      rw [channel, begun.serve_of_unused _ unused]
      exact ⟨rfl, ended⟩
    case used =>
      intro r e result wanted
      rw [channel, begun.serve_of_used _ used]
      refine ⟨channelPoll r (s.channels.get n), rfl, rfl, rfl, fun moving x decided => ?_,
        Engine.command_ne_goto, Engine.command_of_stopped, Engine.command_of_idle,
        Engine.command_of_fault, Engine.lampField_eq _ _⟩
      have target : result.map (·.target) = some x.target := congrArg _ decided
      exact (congrArg (e.command r) target).trans (Engine.command_of_moving moving _)
    case farewell =>
      rw [discover, begun.serve_of_farewell _ owed]
      exact ⟨rfl, rfl, rfl, rfl⟩
    case discovery =>
      have free (st : Nat) : claimed s.store.active st = false ↔ unclaimed st := claimed_eq_false_iff _ st
      have taken {st : Nat} (h : claimed s.store.active st = true) : ¬ unclaimed st := fun u =>
        absurd (((free st).mpr u).symm.trans h) nofun
      obtain ⟨k, polled, unclaimedPolled, earlier⟩ := firstUnclaimed_isFirst s.store.active ⟨low, high⟩
      have station : IsStation (stationFrom s.branch.pointer k) :=
        polled ▸ isStation_firstUnclaimed s.store.active 31 ⟨low, high⟩
      obtain ⟨l, moved, unclaimedNext, between⟩ :=
        firstUnclaimed_isFirst s.store.active (isStation_stationAfter station)
      rw [stationFrom_stationAfter station] at moved unclaimedNext
      rw [discover, begun.serve_of_discovery _ clear]
      refine ⟨k, l + 1, (free _).mp unclaimedPolled, fun j before => taken (earlier j before),
        congrArg (fun st => some (⟨st, .stop, none⟩ : Poll)) polled,
        congrArg (fun st => some (⟨.discovery, ⟨st, .stop, none⟩, since + 12⟩ : Exchange)) polled,
        Nat.succ_pos l, (free _).mp unclaimedNext, fun j first before => ?_, ?_, clear⟩
      · obtain ⟨j, rfl⟩ := Nat.exists_eq_add_of_le' first
        have claimedBetween := between j (Nat.lt_of_succ_lt_succ before)
        rw [stationFrom_stationAfter station] at claimedBetween
        exact taken claimedBetween
      · exact (congrArg (fun st => firstUnclaimed s.store.active 31 (stationAfter st)) polled).trans moved
  case chars =>
    intro command lamp body
    have spelled : (q.command.code, q.command.argument) = command := by
      dsimp only [command]
      cases q.command <;> rfl
    have lit : lampField q.lamp = lamp := by
      dsimp only [lamp]
      rcases q.lamp with _ | _ | _ | _ <;> rfl
    simp only [Poll.chars, Poll.body, body, ← spelled, lit]

end Sys2Proof.Machine

/-! SUPPORT. The part in repeater mode (R35, R126, R135, R146, R150): no block but the ports and the contact has an
event, and no frame that it passes on carries a node reset. -/

namespace Sys2Proof.Machine

/-- What RepeaterLaw says of a part in repeater mode, and the mode itself. -/
structure State.Repeating (s : State) : Prop where
  address : s.trunk.address = none
  store : s.store = ⟨defaultSet, none, 0⟩
  zones : s.zone.zones = Table.fill ⟨false, none, false⟩
  supervision : s.zone.supervision = ⟨false, none⟩
  weather : s.weather = WeatherRuntime.powerOn
  channels : s.channels = Table.fill Channel.powerOn
  branch : s.branch = Branch.powerOn true 0
  supply : s.supply = Supply.powerOn true 0
  notice : s.notice = NoticeUnit.powerOn
  pendingReset : s.trunk.pendingReset = false
  noReset : ∀ p, (s.port p).carriesReset = false

theorem State.repeating_of_law {s : State} (repeater : s.repeater = true) (law : s.RepeaterLaw) :
    s.Repeating := by
  obtain ⟨store, zones, supervision, weather, channels, branch, supply, notice, pendingReset, up, down⟩ :=
    law repeater
  exact ⟨Option.isNone_iff_eq_none.mp repeater, store, zones, supervision, weather, channels, branch, supply,
    notice, pendingReset, fun | .up => up | .down => down⟩

theorem State.Repeating.repeater {s : State} (h : s.Repeating) : s.repeater = true :=
  Option.isNone_iff_eq_none.mpr h.address

theorem State.Repeating.logError {s : State} (h : s.Repeating) (k : ErrorKind) (p : ErrorPort)
    (x : Captured) : s.logError k p x = s :=
  if_pos h.repeater

/-! ## Ports without a reset (R159) -/

section Ports

variable {p : Port}

theorem Port.carriesReset_eq_false_iff :
    p.carriesReset = false
      ↔ (∀ x ∈ p.urgent, x.reset = false) ∧ (∀ x ∈ p.normal, x.reset = false)
          ∧ ∀ x, p.flight = some x → x.reset = false := by
  simp [Port.carriesReset, Port.holdsReset, Port.flightResets, and_assoc, Option.any_eq_false]

theorem Port.put_carriesReset (h : p.carriesReset = false) (c : QueueClass) {x : Entry}
    (plain : x.reset = false) : (p.put c x).1.carriesReset = false := by
  rw [Port.carriesReset_eq_false_iff] at h
  obtain ⟨urgent, normal, flight⟩ := h
  have appended {l : List Entry} (hl : ∀ y ∈ l, y.reset = false) : ∀ y ∈ l ++ [x], y.reset = false := by
    simpa [or_imp, forall_and, plain] using hl
  obtain ⟨-, e⟩ | ⟨-, -, e⟩ | ⟨-, -, -, -, e⟩ | ⟨-, -, -, -, e⟩ | ⟨-, -, e, -⟩ := Port.put_cases c x p <;>
    rw [e, Port.carriesReset_eq_false_iff]
  · exact ⟨urgent, normal, flight⟩
  · exact ⟨urgent, normal, fun y same => Option.some.inj same ▸ plain⟩
  · exact ⟨appended urgent, normal, flight⟩
  · exact ⟨urgent, appended normal, flight⟩
  · exact ⟨urgent, normal, flight⟩

theorem Port.start_carriesReset (h : p.carriesReset = false) : p.start.carriesReset = false := by
  rw [Port.carriesReset_eq_false_iff] at h ⊢
  obtain ⟨urgent, normal, flight⟩ := h
  unfold Port.start
  split
  next x rest waits =>
    rw [waits, List.forall_mem_cons] at urgent
    exact ⟨urgent.2, normal, fun y same => Option.some.inj same ▸ urgent.1⟩
  next x rest _ waits =>
    rw [waits, List.forall_mem_cons] at normal
    exact ⟨urgent, normal.2, fun y same => Option.some.inj same ▸ normal.1⟩
  next => exact ⟨urgent, normal, flight⟩

theorem Port.emptied_carriesReset (h : p.carriesReset = false) (link : Bool) :
    { p.emptied with link }.carriesReset = false := by
  rw [Port.carriesReset_eq_false_iff] at h ⊢
  exact ⟨nofun, nofun, h.2.2⟩

end Ports

/-! ## What a command may change -/

/-- A state that differs in the two ports and the contact alone, no frame on the ports carrying a reset. -/
def State.RepeatsTo (s t : State) : Prop :=
  ∃ up down contact,
    t = { s with
        trunk := { s.trunk with up, down }
        zone := { s.zone with contact } }
      ∧ up.carriesReset = false ∧ down.carriesReset = false

/-- A command's outcome is such a state. -/
def State.OutcomeRepeats (s : State) (o : Host.Outcome State Fault Refusal) : Prop :=
  ∃ t, o = .next t ∧ s.RepeatsTo t

theorem State.RepeatsTo.law {s t : State} (h : s.Repeating) (repeats : s.RepeatsTo t) : t.RepeaterLaw := by
  obtain ⟨up, down, contact, rfl, upPlain, downPlain⟩ := repeats
  exact fun _ => ⟨h.store, h.zones, h.supervision, h.weather, h.channels, h.branch, h.supply, h.notice,
    h.pendingReset, upPlain, downPlain⟩

namespace State.Repeating

variable {s : State} (h : s.Repeating)

include h

theorem self : s.RepeatsTo s := ⟨_, _, _, rfl, h.noReset .up, h.noReset .down⟩

theorem same : s.OutcomeRepeats (.next s) := ⟨s, rfl, h.self⟩

/-- The event of a command has not come about. -/
theorem notDue {p : Prop} [Decidable p] (t : State) (not : ¬ p) :
    s.OutcomeRepeats (if p then .next t else .next s) :=
  ⟨s, if_neg not, h.self⟩

theorem setPort (p : TrunkPort) {x : Port} (plain : x.carriesReset = false) :
    s.RepeatsTo (s.setPort p x) := by
  cases p
  · exact ⟨x, _, _, rfl, plain, h.noReset .down⟩
  · exact ⟨_, x, _, rfl, h.noReset .up, plain⟩

theorem setContact (contact : Contact) : s.RepeatsTo (s.setZone { s.zone with contact }) :=
  ⟨_, _, contact, rfl, h.noReset .up, h.noReset .down⟩

/-! ## Frames (R150, R156) -/

/-- Every frame is forwarded alone, and nothing is logged. -/
theorem receive (p : TrunkPort) (f : Frame) (owner : Option Owner) :
    s.RepeatsTo (s.receive p f owner) := by
  have forwarded : s.RepeatsTo (s.forward p f).1 := by
    have put := Port.put_carriesReset (h.noReset (otherPort p)) (queueClass s.node.classMap f.kind)
      (x := ⟨{ f with hop := f.hop - 1 }, false⟩) rfl
    unfold State.forward
    split
    · exact h.self
    · dsimp only
      split
      next taken => rw [taken] at put; exact h.setPort _ put
      · exact h.self
      · exact h.self
  have silent (k : Option ErrorKind) :
      (s.forward p f).1.logOption k p f = (s.forward p f).1 := by
    obtain ⟨x, trunk⟩ := s.forward_trunk p f
    have repeater : (s.forward p f).1.repeater = true := by
      rw [State.repeater, trunk, Trunk.setPort_address]
      exact h.repeater
    cases k <;> [rfl; exact if_pos repeater]
  have only : s.receive p f owner = s.forwardOnly p f := by simp [State.receive, h.address]
  rw [only, State.forwardOnly, silent]
  exact forwarded

theorem frame (c : Instr) : s.OutcomeRepeats (execFrame c s) := by
  have received (p : TrunkPort) (f : Frame) (o : Owner) : s.OutcomeRepeats (.next (s.receive p f (some o))) :=
    ⟨_, rfl, h.receive p f (some o)⟩
  unfold execFrame
  split
  -- The last arm, of the commands that are no frames.
  case h_18 => exact h.same
  all_goals exact received _ _ _

theorem frameReception (p : TrunkPort) (period : Nat) (chars : List Byte) :
    s.OutcomeRepeats (execFrameReception p period chars s) := by
  unfold execFrameReception
  split
  · exact h.same
  · split
    · rw [h.logError]; exact h.same
    · rw [h.logError]; exact h.same
    · split
      · exact h.frame _
      · exact ⟨_, rfl, h.receive _ _ _⟩

/-! ## Links and transmissions (R149, R158, R159) -/

theorem holdsReset (p : TrunkPort) : (s.port p).holdsReset = false :=
  (Bool.or_eq_false_iff.mp (h.noReset p)).1

theorem flightResets (p : TrunkPort) : (s.port p).flightResets = false :=
  (Bool.or_eq_false_iff.mp (h.noReset p)).2

theorem linkDown (p : TrunkPort) : s.OutcomeRepeats (execLinkDown p s) := by
  refine ⟨_, if_neg ?_, h.setPort p (Port.emptied_carriesReset (h.noReset p) false)⟩
  simp [h.holdsReset p]

theorem transmissionEnd (p : TrunkPort) : s.OutcomeRepeats (execTransmissionEnd p s) := by
  refine ⟨_, rfl, ?_⟩
  obtain ⟨urgent, normal, flight⟩ := Port.carriesReset_eq_false_iff.mp (h.noReset p)
  unfold State.endTransmission
  split
  · exact h.self
  next x inFlight =>
    dsimp only
    rw [flight x inFlight, if_neg Bool.false_ne_true]
    exact h.setPort p (Port.carriesReset_eq_false_iff.mpr ⟨urgent, normal, nofun⟩)

theorem transmissionStart (p : TrunkPort) : s.OutcomeRepeats (execTransmissionStart p s) := by
  unfold execTransmissionStart
  split
  · exact ⟨_, rfl, h.setPort p (Port.start_carriesReset (h.noReset p))⟩
  · exact h.same

theorem nodeResetTakesEffect : s.OutcomeRepeats (execNodeResetTakesEffect s) := by
  have up : s.trunk.up.flightResets = false := h.flightResets .up
  have down : s.trunk.down.flightResets = false := h.flightResets .down
  exact ⟨s, by simp [execNodeResetTakesEffect, up, down], h.self⟩

/-! ## The contact (R32, R35) -/

theorem pendingChangeAccepted : s.OutcomeRepeats (execPendingChangeAccepted s) := by
  unfold execPendingChangeAccepted
  split
  · refine ⟨_, rfl, ?_⟩
    have silent : s.acceptContact
        = s.setZone { s.zone with contact := ⟨otherLevel s.zone.contact.accepted, none⟩ } :=
      if_neg fun alarm => absurd (alarm.2.2.symm.trans h.repeater) nofun
    rw [silent]
    exact h.setContact _
  · exact h.same

/-! ## The blocks at rest (R126, R135, R146) -/

theorem engine (n : ChannelNo) : (s.channels.get n).engine = Engine.powerOn := by
  rw [h.channels, Table.get_fill]
  rfl

theorem schedule : s.branch.schedule = .silent := by rw [h.branch]; rfl

theorem exchange : s.branch.exchange = none := by rw [h.branch]; rfl

theorem exec_repeats (c : Instr) (notPowerOn : ∀ straps rate contact, c ≠ .powerOn straps rate contact) :
    s.OutcomeRepeats (exec c s) := by
  have frame := h.frame c
  cases c
  case powerOn straps rate contact => exact absurd rfl (notPowerOn straps rate contact)
  case linkDown p => exact h.linkDown p
  case linkUp p => exact ⟨_, rfl, h.setPort p (h.noReset p)⟩
  case frameReception p period chars => exact h.frameReception p period chars
  case nodeResetTakesEffect => exact h.nodeResetTakesEffect
  case transmissionEnd p => exact h.transmissionEnd p
  case transmissionStart p => exact h.transmissionStart p
  case contactInputChange level => exact ⟨_, rfl, h.setContact _⟩
  case pendingChangeAccepted => exact h.pendingChangeAccepted
  case panelTimeout => exact h.notDue _ (by simp [State.panelDue, h.supervision])
  case rainHoldExpiry => exact h.notDue _ (by simp [h.weather, WeatherRuntime.powerOn, HoldTimer.due])
  case stormHoldExpiry => exact h.notDue _ (by simp [h.weather, WeatherRuntime.powerOn, HoldTimer.due])
  case stationTimeout => exact h.notDue _ (by simp [State.stationDue, h.weather, WeatherRuntime.powerOn])
  case dwellExpiry n => exact h.notDue _ (by simp [h.engine n, Engine.powerOn, Engine.dwellDue])
  case retryExpiry n => exact h.notDue _ (by simp [h.engine n, Engine.powerOn, Engine.retryDue])
  case supplySample reading =>
    refine ⟨s, if_neg ?_, h.self⟩
    simp [Supply.sampleDue, h.supply, Supply.powerOn]
  case slotStart => exact ⟨s, by simp [exec, execSlotStart, h.schedule], h.self⟩
  case branchReception chars =>
    exact ⟨s, exec_branchReception_of_late (by simp [h.exchange]), h.self⟩
  case answerWindowClose => exact ⟨s, by simp [exec, execAnswerWindowClose, h.exchange], h.self⟩
  all_goals exact frame

end State.Repeating

/-- Settles O59: each command's event leaves a repeating part, and what differs is in its ports and contact. -/
theorem repeaterChangesPortsAndContactOnly : Obligations.RepeaterChangesPortsAndContactOnly := by
  intro c s t repeater law notPowerOn ran
  have repeating := State.repeating_of_law repeater law
  obtain ⟨u, answered, repeats⟩ := repeating.exec_repeats c notPowerOn
  obtain rfl : t = u := Host.Outcome.next.inj (ran.symm.trans answered)
  obtain ⟨up, down, contact, differs, -⟩ := id repeats
  exact ⟨repeats.law repeating, up, down, contact, differs⟩

end Sys2Proof.Machine

/-! SUPPORT. The Supply Monitor (chapter 7): the window, the counts of R129 and R130, what a change of the
supply state does to the channels (R94, R95), and the two commands. -/

namespace Sys2Proof.Machine

/-! ## The window (R127, R132) -/

theorem judgeSample_of_low {node : NodeRecord} {v : Nat} (low : v < node.supplyMin) :
    judgeSample node v = .below := if_pos low

theorem judgeSample_of_high {node : NodeRecord} {v : Nat} (notLow : ¬ v < node.supplyMin)
    (high : node.supplyMax < v) : judgeSample node v = .above :=
  (if_neg notLow).trans (if_pos high)

theorem judgeSample_eq_inside_iff (node : NodeRecord) (v : Nat) :
    judgeSample node v = .inside ↔ node.supplyMin ≤ v ∧ v ≤ node.supplyMax := by
  unfold judgeSample
  split_ifs <;> simp <;> omega

theorem State.lastInside_iff (s : State) :
    s.lastInside = true
      ↔ ∃ v, s.supply.last = some v ∧ s.node.supplyMin ≤ v ∧ v ≤ s.node.supplyMax := by
  simp [State.lastInside, judgeSample_eq_inside_iff, Option.any_eq_true]

/-! ## The counts (R129, R130) -/

namespace Supply

variable {node : NodeRecord} {u : Supply}

theorem count_below_of_low (low : u.state = .low) : u.count node .below = u.noCounts := by
  simp only [count, low]

/-- A sample below counts towards LOW in each other state. -/
theorem count_below_of_not_low (notLow : u.state ≠ .low) :
    u.count node .below = u.oneBelow node := by
  unfold count
  cases state : u.state
  case low => exact absurd state notLow
  case ok => rfl
  case high => rfl

theorem count_below_of_few (notLow : u.state ≠ .low) (few : u.below ≤ 1) :
    u.count node .below = { u with below := u.below + 1, above := 0, inWindow := 0 } :=
  (count_below_of_not_low notLow).trans (if_neg (by omega))

theorem count_below_of_third (notLow : u.state ≠ .low) (third : 2 ≤ u.below) :
    u.count node .below = u.enterLow node :=
  (count_below_of_not_low notLow).trans (if_pos (by omega))

theorem count_above_of_high (high : u.state = .high) : u.count node .above = u.noCounts := by
  simp only [count, high]

/-- A sample above counts towards HIGH in each other state. -/
theorem count_above_of_not_high (notHigh : u.state ≠ .high) :
    u.count node .above = u.oneAbove node := by
  unfold count
  cases state : u.state
  case high => exact absurd state notHigh
  case ok => rfl
  case low => rfl

theorem count_above_of_few (notHigh : u.state ≠ .high) (few : u.above ≤ 1) :
    u.count node .above = { u with below := 0, above := u.above + 1, inWindow := 0 } :=
  (count_above_of_not_high notHigh).trans (if_neg (by omega))

theorem count_above_of_third (notHigh : u.state ≠ .high) (third : 2 ≤ u.above) :
    u.count node .above = u.enterHigh node :=
  (count_above_of_not_high notHigh).trans (if_pos (by omega))

theorem count_inside_of_ok (ok : u.state = .ok) : u.count node .inside = u.noCounts := by
  simp only [count, ok]

theorem count_inside_of_out (out : u.state ≠ .ok) : u.count node .inside = u.oneInside := by
  unfold count
  cases state : u.state
  case ok => exact absurd state out
  case low => rfl
  case high => rfl

/-- Out of OK a sample in the window is counted, up to ten, while the tenth does not end the excursion. -/
theorem count_inside_of_stays (out : u.state ≠ .ok) (stays : u.inWindow ≤ 8 ∨ u.latched = true) :
    u.count node .inside
      = { u with below := 0, above := 0, inWindow := min 10 (u.inWindow + 1) } := by
  refine (count_inside_of_out out).trans (if_neg fun ⟨tenth, unlatched⟩ => ?_)
  obtain few | latched := stays
  · omega
  · exact absurd (unlatched.symm.trans latched) nofun

theorem count_inside_of_tenth (out : u.state ≠ .ok) (tenth : 9 ≤ u.inWindow)
    (unlatched : u.latched = false) : u.count node .inside = u.back :=
  (count_inside_of_out out).trans (if_pos ⟨by omega, unlatched⟩)

end Supply

/-! ## A change of the supply state on the channels (R94, R95, R133) -/

theorem Engine.supplyOut_of_caught {e : Engine}
    (caught : e.state = .moving ∨ e.state = .dwell ∨ e.state = .retryWait) : e.supplyOut = e.hold := by
  obtain state | state | state := caught <;> simp only [Engine.supplyOut, state]

theorem Engine.supplyOut_of_not_caught {e : Engine}
    (spared : ¬ (e.state = .moving ∨ e.state = .dwell ∨ e.state = .retryWait)) : e.supplyOut = e := by
  unfold Engine.supplyOut
  split
  case h_1 moving => exact absurd (.inl moving) spared
  case h_2 dwell => exact absurd (.inr (.inl dwell)) spared
  case h_3 waits => exact absurd (.inr (.inr waits)) spared
  case h_4 => rfl

theorem Channel.supplyBack_of_not_held (ctx : Ctx) (rec : ChannelRecord) {c : Channel}
    (h : c.engine.state ≠ .held) : c.supplyBack ctx rec = c := if_neg h

theorem Channel.supplyBack_of_held (ctx : Ctx) (rec : ChannelRecord) {c : Channel} {r : Result}
    (held : c.engine.state = .held) (result : c.result = some r) :
    c.supplyBack ctx rec = { c with engine := c.engine.moveTest ctx rec r.target } :=
  (if_pos held).trans (Channel.moveTest_of_result ctx rec result)

section Change

variable {s : State} {u : Supply}

/-- OK is left: the channels in MOVING, DWELL and RETRY_WAIT are held (R94). -/
theorem State.changeSupply_of_leaves (ok : s.supply.state = .ok) (out : u.state ≠ .ok) :
    ∃ channels,
      s.changeSupply u = ((s.setSupply u).raise (.supply u.state)).setChannels channels
        ∧ ∀ n, let c := s.channels.get n
            let caught := c.engine.state = .moving ∨ c.engine.state = .dwell ∨ c.engine.state = .retryWait
            (caught → channels.get n = { c with engine := c.engine.hold })
              ∧ (¬ caught → channels.get n = c) := by
  refine ⟨_, if_pos ⟨ok, out⟩, fun n => ?_⟩
  have channel := State.mapChannels_get ((s.setSupply u).raise (.supply u.state))
    (fun _ _ c => c.onEngine Engine.supplyOut) n
  refine ⟨fun caught => channel.trans ?_, fun spared => channel.trans ?_⟩
  · exact congrArg (fun e => { s.channels.get n with engine := e }) (Engine.supplyOut_of_caught caught)
  · exact congrArg (fun e => { s.channels.get n with engine := e }) (Engine.supplyOut_of_not_caught spared)

/-- OK returns: the HELD channels meet the move test with the supply OK again (R95). -/
theorem State.changeSupply_of_returns (out : s.supply.state ≠ .ok) (ok : u.state = .ok) :
    ∃ channels,
      s.changeSupply u = ((s.setSupply u).raise (.supply u.state)).setChannels channels
        ∧ ∀ n, let c := s.channels.get n
            (c.engine.state ≠ .held → channels.get n = c)
              ∧ (c.engine.state = .held → ∀ r, c.result = some r →
                  channels.get n
                    = { c with
                        engine := c.engine.moveTest ⟨s.store.active, s.weather, true, s.now⟩ (s.record n)
                          r.target }) := by
  have ctx : ((s.setSupply u).raise (.supply u.state)).ctx
      = ⟨s.store.active, s.weather, true, s.now⟩ := by simp [State.ctx, ok]
  refine ⟨_, (if_neg fun h => out h.1).trans (if_pos ⟨out, ok⟩), fun n => ?_⟩
  rw [ctx]
  have channel := State.mapChannels_get ((s.setSupply u).raise (.supply u.state))
    (fun _ rec c => c.supplyBack ⟨s.store.active, s.weather, true, s.now⟩ rec) n
  exact ⟨fun spared => channel.trans (Channel.supplyBack_of_not_held _ _ spared),
    fun held _ result => channel.trans (Channel.supplyBack_of_held _ _ held result)⟩

/-- Between LOW and HIGH the channels stay. -/
theorem State.changeSupply_of_between (before : s.supply.state ≠ .ok) (after : u.state ≠ .ok) :
    s.changeSupply u = ((s.setSupply u).raise (.supply u.state)).setChannels s.channels :=
  (if_neg fun h => before h.1).trans (if_neg fun h => after h.2)

end Change

/-! ## SUPPLY_SAMPLE (R127 to R131) -/

/-- A due sample is counted on the record that holds it as the last and the next one's time. -/
theorem exec_supplySample_of_due {s : State} {due : Nat} (reading : Nat)
    (scheduled : s.supply.nextSample = some due) (reached : due ≤ s.now) {x : Supply}
    (counted : Supply.count s.node (judgeSample s.node (min reading 400))
      { s.supply with last := some (min reading 400), nextSample := some (due + 100) } = x) :
    exec (.supplySample reading) s
      = .next (if x.state = s.supply.state then s.setSupply x else s.changeSupply x) := by
  have isDue : s.supply.sampleDue s.now = true := by simp [Supply.sampleDue, scheduled, reached]
  have sampled : s.supply.sample s.node reading = x := by
    rw [← counted, Supply.sample, scheduled]
    rfl
  simp only [exec, execSupplySample, isDue, sampled, if_true]
  split <;> rfl

/-- Settles O45: the sample is judged, its count is read from the tables of R129 and R130, and a change of the
state is one of the three of R94 and R95. -/
theorem supplySampleQualifies : Obligations.SupplySampleQualifies := by
  intro reading due s scheduled reached v low high inside u done counted changed lowFlag highFlag held
    released
  let w : Supply := { u with last := some v, nextSample := some (due + 100) }
  let raised (x : Supply) : Machine.State := (s.setSupply x).raise (.supply x.state)
  have stays {verdict : Verdict} {x : Supply} (judged : judgeSample s.node v = verdict)
      (count : w.count s.node verdict = x) (same : x.state = u.state) : done (s.setSupply x) :=
    (exec_supplySample_of_due reading scheduled reached (judged ▸ count)).trans (by rw [if_pos same])
  have changes {verdict : Verdict} {x : Supply} (judged : judgeSample s.node v = verdict)
      (count : w.count s.node verdict = x) (moves : x.state ≠ u.state) : done (s.changeSupply x) :=
    (exec_supplySample_of_due reading scheduled reached (judged ▸ count)).trans (by rw [if_neg moves])
  have leaves {verdict : Verdict} {x : Supply} (ok : u.state = .ok)
      (judged : judgeSample s.node v = verdict) (count : w.count s.node verdict = x)
      (out : x.state ≠ .ok) : ∃ channels, done ((raised x).setChannels channels) ∧ held channels := by
    obtain ⟨channels, change, each⟩ := State.changeSupply_of_leaves ok out
    exact ⟨channels, change ▸ changes judged count (ok ▸ out), each⟩
  have returns {verdict : Verdict} {x : Supply} (out : u.state ≠ .ok)
      (judged : judgeSample s.node v = verdict) (count : w.count s.node verdict = x)
      (ok : x.state = .ok) :
      ∃ channels, done ((raised x).setChannels channels) ∧ released channels := by
    obtain ⟨channels, change, each⟩ := State.changeSupply_of_returns out ok
    exact ⟨channels, change ▸ changes judged count (ok ▸ out.symm), each⟩
  have crosses {verdict : Verdict} {x : Supply} (before : u.state ≠ .ok)
      (judged : judgeSample s.node v = verdict) (count : w.count s.node verdict = x)
      (after : x.state ≠ .ok) (moves : x.state ≠ u.state) :
      done ((raised x).setChannels s.channels) :=
    State.changeSupply_of_between before after ▸ changes judged count moves
  have below (isLow : low) : judgeSample s.node v = .below := judgeSample_of_low isLow
  have above (isHigh : high) : judgeSample s.node v = .above := judgeSample_of_high isHigh.1 isHigh.2
  have within (isInside : inside) : judgeSample s.node v = .inside :=
    (judgeSample_eq_inside_iff _ _).mpr
      ⟨Nat.le_of_not_lt isInside.1, Nat.le_of_not_lt fun beyond => isInside.2 ⟨isInside.1, beyond⟩⟩
  have isNot {x y : SupplyState} (is : u.state = x) (differs : x ≠ y) : u.state ≠ y := is ▸ differs
  exact ⟨
    fun ok h few => stays (below h) (Supply.count_below_of_few (isNot ok nofun) few) rfl,
    fun ok h third => leaves ok (below h) (Supply.count_below_of_third (isNot ok nofun) third) nofun,
    fun ok h few => stays (above h) (Supply.count_above_of_few (isNot ok nofun) few) rfl,
    fun ok h third => leaves ok (above h) (Supply.count_above_of_third (isNot ok nofun) third) nofun,
    fun ok h => stays (within h) (Supply.count_inside_of_ok ok) rfl,
    fun isLow h => stays (below h) (Supply.count_below_of_low isLow) rfl,
    fun isHigh h => stays (above h) (Supply.count_above_of_high isHigh) rfl,
    fun isLow h few => stays (above h) (Supply.count_above_of_few (isNot isLow nofun) few) rfl,
    fun isLow h third => crosses (isNot isLow nofun) (above h)
      (Supply.count_above_of_third (isNot isLow nofun) third) nofun (Ne.symm (isNot isLow nofun)),
    fun isHigh h few => stays (below h) (Supply.count_below_of_few (isNot isHigh nofun) few) rfl,
    fun isHigh h third => crosses (isNot isHigh nofun) (below h)
      (Supply.count_below_of_third (isNot isHigh nofun) third) nofun (Ne.symm (isNot isHigh nofun)),
    fun out h kept => stays (within h) (Supply.count_inside_of_stays out kept) rfl,
    fun out h tenth unlatched =>
      returns out (within h) (Supply.count_inside_of_tenth out tenth unlatched) rfl⟩

/-! ## SUPPLY_CLEAR (R132) -/

theorem actSupplyClear_of_outside {s : State} (outside : s.lastInside = false) :
    actSupplyClear s = Acted.refuse .stillOut s.supplyBody s := by
  simp [actSupplyClear, outside]

theorem actSupplyClear_of_ok {s : State} (inside : s.lastInside = true) (ok : s.supply.state = .ok) :
    actSupplyClear s = Acted.ok s.supplyBody s := by
  simp [actSupplyClear, inside, ok]

theorem actSupplyClear_of_out {s : State} (inside : s.lastInside = true) (out : s.supply.state ≠ .ok) :
    actSupplyClear s
      = Acted.ok (s.changeSupply s.supply.back).supplyBody (s.changeSupply s.supply.back) := by
  simp [actSupplyClear, inside, out]

/-- Settles O46: the owner's three cases on the state that panel supervision leaves, which has the supply, the
sets and the weather of the state before. -/
theorem supplyClearNeedsSampleInWindow : Obligations.SupplyClearNeedsSampleInWindow := by
  intro rx a s ⟨address, notLooped⟩ here s1 f inside body
  have received {t : State} {status : Status} {reply : List Byte}
      (acts : actSupplyClear s1 = ⟨t, none, status, reply, false⟩) :
      exec (.supplyClear rx) s = .next (t.reply rx.port f a status reply false) :=
    congrArg Host.Outcome.next (s.receive_of_answers rx.port f _ a address notLooped here acts)
  have supply : s1.supply = s.supply := s.supervise_supply rx.src
  have store : s1.store = s.store := s.supervise_store rx.src
  have weather : s1.weather = s.weather := s.supervise_weather rx.src
  have now : s1.now = s.now := s.supervise_now rx.src
  have record (n : ChannelNo) : s1.record n = s.record n := State.record_of_store s s1 n store
  have inside_iff : s1.lastInside = true ↔ inside := by
    rw [State.lastInside_iff, State.node, supply, store]
    rfl
  have body_eq : s1.supplyBody = body s := by rw [State.supplyBody, supply]
  refine ⟨fun outside => ?outside, fun isInside ok => ?ok, fun isInside out => ?out⟩
  case outside =>
    have refused := actSupplyClear_of_outside (eq_false_of_ne_true (mt inside_iff.mp outside))
    exact received (body_eq ▸ refused)
  case ok =>
    exact received (body_eq ▸ actSupplyClear_of_ok (inside_iff.mpr isInside) (supply ▸ ok))
  case out =>
    have out1 : s1.supply.state ≠ .ok := supply ▸ out
    have acts := actSupplyClear_of_out (inside_iff.mpr isInside) out1
    obtain ⟨channels, change, each⟩ := State.changeSupply_of_returns (u := s1.supply.back) out1 rfl
    rw [change, supply] at acts
    simp only [store, weather, now, record] at each
    exact ⟨channels, received acts, each⟩

end Sys2Proof.Machine

/-! SUPPORT. What a write of one record makes of a set (R138, R139), said once by table: the statements about
written records and about allowed values go through it. -/

namespace Sys2Proof.Machine

/-! ## Writing one record (R139) -/

/-- The set that a record's bytes make of an old one, by table: one record replaced by what they spell. -/
inductive ConfigSet.Written (old : ConfigSet) (record : List Byte) : TableName → Nat → ConfigSet → Prop
  | channel (n : ChannelNo) {r : ChannelRecord} (spelled : channelOfBytes record = some r) :
      Written old record .channel n.1 { old with channels := old.channels.set n r }
  | layer (l : Layer) {r : LayerRecord} (spelled : layerOfBytes l record = some r) :
      Written old record .layer l.index { old with layers := old.layers.set r l }
  | zone (z : ZoneNo) {r : ZoneRecord} (spelled : zoneOfBytes record = some r) :
      Written old record .zone z.1 { old with zones := old.zones.set z r }
  | group (g : GroupNo) {r : BitVec 16} (spelled : groupOfBytes record = some r) :
      Written old record .group g.1 { old with groups := old.groups.set g r }
  | weather (index : Nat) {r : WeatherRecord} (spelled : weatherOfBytes record = some r) :
      Written old record .weather index { old with weather := r }
  | node (index : Nat) {r : NodeRecord} (spelled : nodeOfBytes record = some r) :
      Written old record .node index { old with node := r }
  | cycle (k : Fin 24) {r : Slot} (spelled : slotOfBytes record = some r) :
      Written old record .cycle k.1 { old with cycle := old.cycle.set k r }

theorem layerOf_index (l : Layer) : layerOf l.index = some l := by cases l <;> rfl

theorem index_of_layerOf {n : Nat} {l : Layer} (h : layerOf n = some l) : l.index = n := by
  unfold layerOf at h
  split at h <;> cases h <;> rfl

/-- A write that the table accepts replaces the record of that index alone. -/
theorem ConfigSet.written_of_write {old new : ConfigSet} {t : TableName} {i : Nat} {record : List Byte}
    (accepted : old.write t i record = some new) : old.Written record t i new := by
  unfold ConfigSet.write at accepted
  cases t <;> dsimp only at accepted
  case channel =>
    split at accepted
    next small =>
      obtain ⟨r, spelled, rfl⟩ := Option.map_eq_some_iff.mp accepted
      exact .channel ⟨i, small⟩ spelled
    next => cases accepted
  case layer =>
    split at accepted
    next l named =>
      obtain ⟨r, spelled, rfl⟩ := Option.map_eq_some_iff.mp accepted
      exact index_of_layerOf named ▸ .layer l spelled
    next => cases accepted
  case zone =>
    split at accepted
    next small =>
      obtain ⟨r, spelled, rfl⟩ := Option.map_eq_some_iff.mp accepted
      exact .zone ⟨i, small⟩ spelled
    next => cases accepted
  case group =>
    split at accepted
    next small =>
      obtain ⟨r, spelled, rfl⟩ := Option.map_eq_some_iff.mp accepted
      exact .group ⟨i, small⟩ spelled
    next => cases accepted
  case weather =>
    obtain ⟨r, spelled, rfl⟩ := Option.map_eq_some_iff.mp accepted
    exact .weather i spelled
  case node =>
    obtain ⟨r, spelled, rfl⟩ := Option.map_eq_some_iff.mp accepted
    exact .node i spelled
  case cycle =>
    split at accepted
    next small =>
      obtain ⟨r, spelled, rfl⟩ := Option.map_eq_some_iff.mp accepted
      exact .cycle ⟨i, small⟩ spelled
    next => cases accepted

/-! ## Allowed values (R138 test 3) -/

/-- What a decoder answers where the last check passes. -/
theorem eq_of_checked {α : Type} {check : Bool} {r r' : α}
    (h : (if check = true then some r else none) = some r') : check = true ∧ r = r' := by
  split at h
  next passed => exact ⟨passed, Option.some.inj h⟩
  next => cases h

theorem serialOf_ne_zero {n : Nat} (h : n < 281474976710656) : serialOf n ≠ some 0 := by
  unfold serialOf
  split
  · exact nofun
  next present =>
    intro zero
    have := congrArg BitVec.toNat (Option.some.inj zero)
    simp only [BitVec.toNat_ofNat, Nat.mod_eq_of_lt h] at this
    exact present this

theorem wordAt_lt (record : List Byte) (i : Nat) : wordAt record i < 65536 := by
  have := (byteAt record i).isLt
  have := (byteAt record (i + 1)).isLt
  simp only [wordAt, val16]
  omega

theorem longAt_lt (record : List Byte) (i : Nat) : longAt record i < 4294967296 := by
  have := wordAt_lt record i
  have := wordAt_lt record (i + 2)
  change wordAt record i * 65536 + wordAt record (i + 2) < _
  omega

theorem channelOfBytes_inRange {record : List Byte} {r : ChannelRecord}
    (h : channelOfBytes record = some r) : r.inRange = true ∧ r.serial ≠ some 0 := by
  simp only [channelOfBytes, Option.bind_eq_bind, Option.bind_eq_some_iff] at h
  obtain ⟨-, -, inUse, -, role, -, smokeMode, -, rainExposed, -, faultAction, -, reportReached, -, facing, -,
    h⟩ := h
  obtain ⟨inRange, rfl⟩ := eq_of_checked h
  refine ⟨inRange, serialOf_ne_zero ?_⟩
  have := wordAt_lt record 3
  have := longAt_lt record 5
  omega

theorem layerOfBytes_inRange {l : Layer} {record : List Byte} {r : LayerRecord}
    (h : layerOfBytes l record = some r) : r.inRange l = true := by
  unfold layerOfBytes at h
  split at h
  · simp only [Option.bind_eq_bind, Option.bind_eq_some_iff] at h
    obtain ⟨mode, -, source, -, h⟩ := h
    obtain ⟨checked, rfl⟩ := eq_of_checked h
    exact (Bool.and_eq_true_iff.mp checked).2
  · cases h

theorem zoneOfBytes_inRange {record : List Byte} {r : ZoneRecord} (h : zoneOfBytes record = some r) :
    r.inRange = true := by
  unfold zoneOfBytes at h
  split at h
  · obtain ⟨inRange, rfl⟩ := eq_of_checked h
    exact inRange
  · cases h

theorem weatherOfBytes_inRange {record : List Byte} {r : WeatherRecord}
    (h : weatherOfBytes record = some r) : r.inRange = true := by
  simp only [weatherOfBytes, Option.bind_eq_bind, Option.bind_eq_some_iff] at h
  obtain ⟨-, -, policy, -, h⟩ := h
  obtain ⟨inRange, rfl⟩ := eq_of_checked h
  exact inRange

theorem nodeOfBytes_inRange {record : List Byte} {r : NodeRecord}
    (h : nodeOfBytes record = some r) : r.inRange = true := by
  simp only [nodeOfBytes, Option.bind_eq_bind, Option.bind_eq_some_iff] at h
  obtain ⟨-, -, contactZone, -, contactSource, -, supplyMinMode, -, supplyMaxMode, -, h⟩ := h
  obtain ⟨checked, rfl⟩ := eq_of_checked h
  exact (Bool.and_eq_true_iff.mp checked).2

theorem LayerTable.get_set (t : LayerTable) (r : LayerRecord) (l k : Layer) :
    (t.set r l).get k = if k = l then r else t.get k := by cases l <;> cases k <;> rfl

/-- An accepted write keeps a set within its tables' values. -/
theorem ConfigSet.Written.inRange {old new : ConfigSet} {t : TableName} {i : Nat} {record : List Byte}
    (written : old.Written record t i new) (h : old.InRange) : new.InRange := by
  obtain ⟨channels, layers, zones, weather, node⟩ := h
  cases written with
  | channel n spelled =>
    refine ⟨fun m => ?_, layers, zones, weather, node⟩
    rw [Table.get_set]
    split <;> [exact channelOfBytes_inRange spelled; exact channels m]
  | layer l spelled =>
    refine ⟨channels, fun k listed => ?_, zones, weather, node⟩
    rw [LayerTable.get_set]
    split
    next same => exact same ▸ layerOfBytes_inRange spelled
    next => exact layers k listed
  | zone z spelled =>
    refine ⟨channels, layers, fun y => ?_, weather, node⟩
    rw [Table.get_set]
    split <;> [exact zoneOfBytes_inRange spelled; exact zones y]
  | group | cycle => exact ⟨channels, layers, zones, weather, node⟩
  | weather _ spelled => exact ⟨channels, layers, zones, weatherOfBytes_inRange spelled, node⟩
  | node _ spelled => exact ⟨channels, layers, zones, weather, nodeOfBytes_inRange spelled⟩

end Sys2Proof.Machine

/-! SUPPORT. A record that a table accepts spells itself again (R139, R144, section 9.6): field by field, then
table by table. -/

namespace Sys2Proof.Machine

/-! ## Fields of a record -/

theorem byte_toNat (b : Byte) : byte b.toNat = b := (BitVec.ofNat_toNat 8 b).trans (BitVec.setWidth_eq b)

theorem be16_val16 (a b : Byte) : be16 (val16 a b) = [a, b] := by
  have := a.isLt
  have := b.isLt
  unfold be16 val16
  congr 1
  · exact BitVec.eq_of_toNat_eq (by simp only [toNat_byte]; omega)
  · exact congrArg (· :: []) (BitVec.eq_of_toNat_eq (by simp only [toNat_byte]; omega))

theorem be16_wordAt (record : List Byte) (i : Nat) :
    be16 (wordAt record i) = [byteAt record i, byteAt record (i + 1)] := be16_val16 _ _

/-- The low two bytes of a number do not see what stands above them. -/
theorem be16_add_mul (n k : Nat) : be16 (k * 65536 + n) = be16 n := by
  unfold be16
  congr 1
  · exact BitVec.eq_of_toNat_eq (by simp only [toNat_byte]; omega)
  · exact congrArg (· :: []) (BitVec.eq_of_toNat_eq (by simp only [toNat_byte]; omega))

theorem be32_longAt (record : List Byte) (i : Nat) :
    be32 (longAt record i)
      = [byteAt record i, byteAt record (i + 1), byteAt record (i + 2), byteAt record (i + 3)] := by
  have high : longAt record i / 65536 = wordAt record i := by
    have := wordAt_lt record (i + 2)
    change (wordAt record i * 65536 + wordAt record (i + 2)) / 65536 = _
    omega
  have low : be16 (longAt record i) = be16 (wordAt record (i + 2)) :=
    be16_add_mul (wordAt record (i + 2)) (wordAt record i)
  rw [be32, high, low, be16_wordAt, be16_wordAt]
  rfl

theorem serialBytes_serialOf (record : List Byte) (i : Nat) :
    serialBytes (serialOf (wordAt record i * 4294967296 + longAt record (i + 2)))
      = [byteAt record i, byteAt record (i + 1), byteAt record (i + 2), byteAt record (i + 3),
          byteAt record (i + 4), byteAt record (i + 5)] := by
  have word := wordAt_lt record i
  have long := longAt_lt record (i + 2)
  have value : ((serialOf (wordAt record i * 4294967296 + longAt record (i + 2))).getD 0).toNat
      = wordAt record i * 4294967296 + longAt record (i + 2) := by
    unfold serialOf
    split
    next zero => exact zero.symm
    next => exact (BitVec.toNat_ofNat _ 48).trans (Nat.mod_eq_of_lt (by omega))
  have high : (wordAt record i * 4294967296 + longAt record (i + 2)) / 4294967296 = wordAt record i := by
    omega
  have low : be32 (wordAt record i * 4294967296 + longAt record (i + 2)) = be32 (longAt record (i + 2)) := by
    rw [be32, be32,
      show (wordAt record i * 4294967296 + longAt record (i + 2)) / 65536
        = wordAt record i * 65536 + longAt record (i + 2) / 65536 by omega,
      show wordAt record i * 4294967296 + longAt record (i + 2)
        = (wordAt record i * 65536) * 65536 + longAt record (i + 2) by omega,
      be16_add_mul, be16_add_mul]
  rw [serialBytes, value, be48, high, low, be16_wordAt, be32_longAt]
  rfl

theorem optionBytes_optionOf (n : Nat) : optionBytes (optionOf n) = be16 n := by
  unfold optionBytes optionOf
  split
  next absent => rw [absent]; rfl
  next => rfl

theorem be16_ofNat_wordAt (record : List Byte) (i : Nat) :
    be16 (BitVec.ofNat 16 (wordAt record i)).toNat = [byteAt record i, byteAt record (i + 1)] := by
  rw [BitVec.toNat_ofNat, Nat.mod_eq_of_lt (wordAt_lt record i), be16_wordAt]

theorem be16Int_int16 (a b : Byte) : be16Int (int16 a b) = [a, b] := by
  have small : val16 a b < 65536 := by
    have := a.isLt
    have := b.isLt
    unfold val16
    omega
  rw [be16Int, int16, BitVec.ofInt_toInt, BitVec.toNat_ofNat, Nat.mod_eq_of_lt small, be16_val16]

/-! ## Codes -/

theorem boolCode_of_boolOf {n : Nat} {x : Bool} (h : boolOf n = some x) : boolCode x = n := by
  unfold boolOf at h
  split at h <;> cases h <;> rfl

theorem code_of_roleOf {n : Nat} {x : Role} (h : roleOf n = some x) : x.code = n := by
  unfold roleOf at h
  split at h <;> cases h <;> rfl

theorem code_of_modeOf {n : Nat} {x : Mode} (h : modeOf n = some x) : x.code = n := by
  unfold modeOf at h
  split at h <;> cases h <;> rfl

theorem code_of_modeSourceOf {n : Nat} {x : ModeSource} (h : modeSourceOf n = some x) : x.code = n := by
  unfold modeSourceOf at h
  split at h <;> cases h <;> rfl

theorem code_of_faultActionOf {n : Nat} {x : FaultAction} (h : faultActionOf n = some x) : x.code = n := by
  unfold faultActionOf at h
  split at h <;> cases h <;> rfl

theorem code_of_timeoutPolicyOf {n : Nat} {x : TimeoutPolicy} (h : timeoutPolicyOf n = some x) :
    x.code = n := by
  unfold timeoutPolicyOf at h
  split at h <;> cases h <;> rfl

theorem code_of_supplyModeOf {n : Nat} {x : SupplyMode} (h : supplyModeOf n = some x) : x.code = n := by
  unfold supplyModeOf at h
  split at h <;> cases h <;> rfl

theorem code_of_contactSourceOf {n : Nat} {x : ContactSource} (h : contactSourceOf n = some x) :
    x.code = n := by
  unfold contactSourceOf at h
  split at h <;> cases h <;> rfl

theorem val_of_index16 {n : Nat} {x : Fin 16} (h : index16 n = some x) : x.1 = n := by
  unfold index16 at h
  split at h <;> cases h
  rfl

theorem code_of_facingOf {n : Nat} {x : Facing} (h : facingOf n = some x) : x.code = n := by
  unfold facingOf at h
  split at h
  next c sector => cases h; exact val_of_index16 sector
  next =>
    split at h <;> cases h
    next flat => exact flat.symm

theorem code_of_slotOf {n : Nat} {x : Slot} (h : slotOf n = some x) : x.code = n := by
  unfold slotOf at h
  split at h
  next c channel => cases h; exact val_of_index16 channel
  next =>
    split at h
    next discover => cases h; exact discover.symm
    next =>
      split at h <;> cases h
      next idle => exact idle.symm

/-! ## Packed bytes -/

theorem flagBit_getLsbD (b : Byte) (k : Nat) : flagBit (b.getLsbD k) k = b.toNat / 2 ^ k % 2 * 2 ^ k := by
  have bit : b.getLsbD k = decide (b.toNat / 2 ^ k % 2 = 1) := Nat.testBit_eq_decide_div_mod_eq
  rw [bit, flagBit]
  split
  next set => rw [of_decide_eq_true set, Nat.one_mul]
  next clear =>
    have := of_decide_eq_false (eq_false_of_ne_true clear)
    rw [show b.toNat / 2 ^ k % 2 = 0 by omega, Nat.zero_mul]

/-- The four two-bit fields of a byte are the byte. -/
theorem byte_of_fields (b : Byte) :
    byte (bitField b 0 2 + 4 * bitField b 2 2 + 16 * bitField b 4 2 + 64 * bitField b 6 2) = b := by
  have := b.isLt
  refine BitVec.eq_of_toNat_eq ?_
  simp only [toNat_byte, bitField]
  omega

/-- The two low fields and the four flags of a channel record's second byte are the byte. -/
theorem byte_of_fields_and_flags (b : Byte) :
    byte (bitField b 0 2 + 4 * bitField b 2 2 + flagBit (b.getLsbD 4) 4 + flagBit (b.getLsbD 5) 5
      + flagBit (b.getLsbD 6) 6 + flagBit (b.getLsbD 7) 7) = b := by
  have := b.isLt
  refine BitVec.eq_of_toNat_eq ?_
  simp only [toNat_byte, bitField, flagBit_getLsbD]
  omega

/-- The two low flags of a byte without others are the byte. -/
theorem byte_of_two_flags {b : Byte} (small : b.toNat < 4) :
    byte (flagBit (b.getLsbD 0) 0 + flagBit (b.getLsbD 1) 1) = b := by
  refine BitVec.eq_of_toNat_eq ?_
  simp only [toNat_byte, flagBit_getLsbD]
  omega

/-- The two low fields of a byte without others are the byte. -/
theorem byte_of_two_fields {b : Byte} (small : b.toNat < 16) :
    byte (bitField b 0 2 + 4 * bitField b 2 2) = b := by
  refine BitVec.eq_of_toNat_eq ?_
  simp only [toNat_byte, bitField]
  omega

/-! ## Records by table -/

/-- A record is the list of its bytes. -/
theorem map_byteAt (record : List Byte) : (List.range record.length).map (byteAt record) = record := by
  refine List.ext_getElem (by simp) fun i _ inside => ?_
  simp [byteAt, inside]

theorem channelBytes_of_spelled {record : List Byte} {r : ChannelRecord}
    (h : channelOfBytes record = some r) : channelBytes r = record := by
  simp only [channelOfBytes, Option.bind_eq_bind, Option.bind_eq_some_iff, Option.guard_eq_some'] at h
  obtain ⟨-, length, inUse, hInUse, role, hRole, smokeMode, hSmoke, rainExposed, hRain, faultAction, hFault,
    reportReached, hReport, facing, hFacing, h⟩ := h
  obtain ⟨-, rfl⟩ := eq_of_checked h
  have serial := serialBytes_serialOf record 3
  simp only [Nat.reduceAdd] at serial
  conv_rhs => rw [← map_byteAt record, length]
  dsimp only [channelBytes]
  simp only [boolCode_of_boolOf hInUse, code_of_roleOf hRole, code_of_modeOf hSmoke,
    boolCode_of_boolOf hRain, code_of_faultActionOf hFault, boolCode_of_boolOf hReport,
    code_of_facingOf hFacing, byte_of_fields, byte_of_fields_and_flags, byte_toNat,
    serial, be16_wordAt, be16_ofNat_wordAt, optionBytes_optionOf]
  simp only [List.range_succ, List.range_zero, List.nil_append, List.cons_append, List.map_cons,
    List.map_nil]

theorem layerBytes_of_spelled {l : Layer} {record : List Byte} {r : LayerRecord}
    (h : layerOfBytes l record = some r) : layerBytes r = record := by
  unfold layerOfBytes at h
  split at h
  next b0 b1 b2 b3 =>
    simp only [Option.bind_eq_bind, Option.bind_eq_some_iff] at h
    obtain ⟨mode, hMode, source, hSource, h⟩ := h
    obtain ⟨checked, rfl⟩ := eq_of_checked h
    have small : b3.toNat < 4 := of_decide_eq_true (Bool.and_eq_true_iff.mp checked).1
    simp only [layerBytes, code_of_modeOf hMode, code_of_modeSourceOf hSource, byte_toNat,
      byte_of_two_flags small]
  next => cases h

theorem zoneBytes_of_spelled {record : List Byte} {r : ZoneRecord} (h : zoneOfBytes record = some r) :
    zoneBytes r = record := by
  unfold zoneOfBytes at h
  split at h
  · obtain ⟨-, rfl⟩ := eq_of_checked h
    simp only [zoneBytes, be16_val16]
    rfl
  · cases h

theorem groupBytes_of_spelled {record : List Byte} {r : BitVec 16} (h : groupOfBytes record = some r) :
    groupBytes r = record := by
  unfold groupOfBytes at h
  split at h
  next b0 b1 =>
    cases h
    exact be16_ofNat_wordAt [b0, b1] 0
  next => cases h

theorem slotBytes_of_spelled {record : List Byte} {r : Slot} (h : slotOfBytes record = some r) :
    slotBytes r = record := by
  unfold slotOfBytes at h
  split at h
  · rw [slotBytes, code_of_slotOf h, byte_toNat]
  · cases h

theorem weatherBytes_of_spelled {record : List Byte} {r : WeatherRecord}
    (h : weatherOfBytes record = some r) : weatherBytes r = record := by
  simp only [weatherOfBytes, Option.bind_eq_bind, Option.bind_eq_some_iff, Option.guard_eq_some'] at h
  obtain ⟨-, length, policy, hPolicy, h⟩ := h
  obtain ⟨-, rfl⟩ := eq_of_checked h
  conv_rhs => rw [← map_byteAt record, length]
  simp only [weatherBytes, code_of_timeoutPolicyOf hPolicy, byte_toNat, be16_wordAt, be32_longAt,
    be16Int_int16]
  rfl

theorem nodeBytes_of_spelled {record : List Byte} {r : NodeRecord}
    (h : nodeOfBytes record = some r) : nodeBytes r = record := by
  simp only [nodeOfBytes, Option.bind_eq_bind, Option.bind_eq_some_iff, Option.guard_eq_some'] at h
  obtain ⟨-, length, contactZone, hZone, contactSource, hSource, supplyMinMode, hMin, supplyMaxMode, hMax,
    h⟩ := h
  obtain ⟨checked, rfl⟩ := eq_of_checked h
  simp only [Bool.and_eq_true, decide_eq_true_eq] at checked
  obtain ⟨⟨⟨modes, high⟩, mask⟩, -⟩ := checked
  have low := wordAt_lt record 13
  have map : (BitVec.ofNat 17 ((byteAt record 12).toNat * 65536 + wordAt record 13)).toNat
      = (byteAt record 12).toNat * 65536 + wordAt record 13 :=
    (BitVec.toNat_ofNat _ 17).trans (Nat.mod_eq_of_lt (by omega))
  have mapHigh : ((byteAt record 12).toNat * 65536 + wordAt record 13) / 65536
      = (byteAt record 12).toNat := by omega
  have notices : (BitVec.ofNat 9 (wordAt record 16)).toNat = wordAt record 16 :=
    (BitVec.toNat_ofNat _ 9).trans (Nat.mod_eq_of_lt mask)
  conv_rhs => rw [← map_byteAt record, length]
  simp only [nodeBytes, val_of_index16 hZone, code_of_contactSourceOf hSource, code_of_supplyModeOf hMin,
    code_of_supplyModeOf hMax, byte_of_two_fields modes, map, mapHigh, notices, byte_toNat, be16_add_mul,
    be16_wordAt]
  rfl

/-! ## Reading a record back (R139, R144) -/

/-- A record of a numbered table reads as it was replaced. -/
theorem recordBytes_set_self {α : Type} {n : Nat} (table : Table α n) (bytes : α → List Byte) (r : α)
    (i : Fin n) :
    (if h : i.1 < n then bytes ((table.set i r).get ⟨i.1, h⟩) else []) = bytes r := by
  rw [dif_pos i.2, Table.get_set_self]

/-- A record of a numbered table reads as before where another index was replaced. -/
theorem recordBytes_set_other {α : Type} {n j : Nat} (table : Table α n) (bytes : α → List Byte) (r : α)
    (i : Fin n) (other : j ≠ i.1) :
    (if h : j < n then bytes ((table.set i r).get ⟨j, h⟩) else [])
      = if h : j < n then bytes (table.get ⟨j, h⟩) else [] := by
  split
  · rw [Table.get_set_ne table r fun same => other (congrArg Fin.val same)]
  · rfl

/-- The record written spells the bytes it was written with. -/
theorem ConfigSet.Written.recordBytes_self {old new : ConfigSet} {t : TableName} {i : Nat}
    {record : List Byte} (written : old.Written record t i new) : new.recordBytes t i = record := by
  cases written with
  | channel n spelled =>
    exact (recordBytes_set_self _ channelBytes _ n).trans (channelBytes_of_spelled spelled)
  | layer l spelled =>
    simp only [ConfigSet.recordBytes, layerOf_index, LayerTable.get_set, if_true]
    exact layerBytes_of_spelled spelled
  | zone z spelled => exact (recordBytes_set_self _ zoneBytes _ z).trans (zoneBytes_of_spelled spelled)
  | group g spelled => exact (recordBytes_set_self _ groupBytes _ g).trans (groupBytes_of_spelled spelled)
  | weather _ spelled => exact weatherBytes_of_spelled spelled
  | node _ spelled => exact nodeBytes_of_spelled spelled
  | cycle k spelled => exact (recordBytes_set_self _ slotBytes _ k).trans (slotBytes_of_spelled spelled)

/-- A record of another table, or of another index of a table with several records, reads as before. -/
theorem ConfigSet.Written.recordBytes_other {old new : ConfigSet} {t : TableName} {i : Nat}
    {record : List Byte} (written : old.Written record t i new) {u : TableName} {j : Nat}
    (other : u ≠ t ∨ (j ≠ i ∧ 1 < u.count)) : new.recordBytes u j = old.recordBytes u j := by
  have elsewhere : u = t → j ≠ i ∧ 1 < t.count := fun same => same ▸ other.resolve_left (· same)
  cases written with
  | channel n =>
    cases u
    case channel => exact recordBytes_set_other old.channels channelBytes _ n (elsewhere rfl).1
    all_goals rfl
  | layer l =>
    cases u
    case layer =>
      unfold ConfigSet.recordBytes
      dsimp only
      split
      next k named =>
        have apart : k ≠ l := fun same =>
          (elsewhere rfl).1 ((index_of_layerOf named).symm.trans (congrArg Layer.index same))
        rw [LayerTable.get_set, if_neg apart]
      next => rfl
    all_goals rfl
  | zone z =>
    cases u
    case zone => exact recordBytes_set_other old.zones zoneBytes _ z (elsewhere rfl).1
    all_goals rfl
  | group g =>
    cases u
    case group => exact recordBytes_set_other old.groups groupBytes _ g (elsewhere rfl).1
    all_goals rfl
  | weather =>
    cases u
    case weather => exact absurd (elsewhere rfl).2 (Nat.lt_irrefl 1)
    all_goals rfl
  | node =>
    cases u
    case node => exact absurd (elsewhere rfl).2 (Nat.lt_irrefl 1)
    all_goals rfl
  | cycle k =>
    cases u
    case cycle => exact recordBytes_set_other old.cycle slotBytes _ k (elsewhere rfl).1
    all_goals rfl

/-- Settles O5: an accepted write is the replacement of one record by what its bytes spell. -/
theorem writtenRecordReadsBack : Obligations.WrittenRecordReadsBack := by
  intro old new t i bytes accepted
  have written := ConfigSet.written_of_write accepted
  exact ⟨written.recordBytes_self, fun u j other => written.recordBytes_other other⟩

end Sys2Proof.Machine

/-! SUPPORT. What any command does to the Configuration Store (chapter 8): it is kept, or staging is discarded, a
record is written to the staged set, or a valid staged set is taken up; power-on alone does otherwise. -/

namespace Sys2Proof.Machine

/-! ## The changes of the store (R138 to R146) -/

/-- The set that a write is applied to (R139). -/
def Store.writeBase (a : Store) : ConfigSet := (a.staged.map (·.set)).getD a.active

/-- Everything that an event but power-on can do to the store. -/
inductive Store.Follows (a : Store) : Store → Prop
  | kept : Follows a a
  | discarded : Follows a { a with staged := none }
  | written {t : TableName} {i : Nat} {record : List Byte} {set : ConfigSet} (opener : Nat) {tally : Nat}
      (written : a.writeBase.Written record t i set) (small : tally < 65536) :
      Follows a { a with staged := some ⟨set, opener, tally⟩ }
  | committed {x : Staged} (staged : a.staged = some x) (valid : failure x.set = none)
      (below : a.generation < Config.generationMax) : Follows a ⟨x.set, none, a.generation + 1⟩

theorem Store.Follows.of_eq {a b : Store} (same : b = a) : a.Follows b := same ▸ .kept

/-- A node reset after the event discards what is staged (R146). -/
theorem Store.Follows.discard {a b : Store} (h : a.Follows b) : a.Follows { b with staged := none } := by
  cases h with
  | kept => exact .discarded
  | discarded => exact .discarded
  | written => exact .discarded
  | committed staged valid below => exact .committed staged valid below

/-- Only a commit changes the active set and the generation (R142, R145). -/
theorem Store.Follows.active {a b : Store} (h : a.Follows b) :
    (b.active = a.active ∧ b.generation = a.generation)
      ∨ ∃ x, a.staged = some x ∧ failure x.set = none ∧ b = ⟨x.set, none, a.generation + 1⟩ := by
  cases h with
  | kept => exact .inl ⟨rfl, rfl⟩
  | discarded => exact .inl ⟨rfl, rfl⟩
  | written => exact .inl ⟨rfl, rfl⟩
  | committed staged valid => exact .inr ⟨_, staged, valid, rfl⟩

/-- The law of the store, of the store alone. -/
abbrev Store.Law (a : Store) : Prop :=
  failure a.active = none ∧ a.active.InRange ∧ a.generation ≤ Config.generationMax
    ∧ ∀ x ∈ a.staged, x.set.InRange ∧ x.tally < 65536

theorem Store.law_of_closed {active : ConfigSet} {generation : Nat} (valid : failure active = none)
    (inRange : active.InRange) (bounded : generation ≤ Config.generationMax) :
    Store.Law ⟨active, none, generation⟩ :=
  ⟨valid, inRange, bounded, fun x staged => absurd staged (Option.not_mem_none x)⟩

theorem Store.Law.writeBase {a : Store} (law : a.Law) : a.writeBase.InRange := by
  obtain ⟨-, active, -, staged⟩ := law
  unfold Store.writeBase
  cases opened : a.staged with
  | none => exact active
  | some x => exact (staged x opened).1

theorem Store.Follows.law {a b : Store} (h : a.Follows b) (law : a.Law) : b.Law := by
  have base := law.writeBase
  obtain ⟨valid, active, generation, staged⟩ := law
  cases h with
  | kept => exact ⟨valid, active, generation, staged⟩
  | discarded => exact Store.law_of_closed valid active generation
  | written opener written small =>
    exact ⟨valid, active, generation, fun x same => Option.some.inj same ▸ ⟨written.inRange base, small⟩⟩
  | committed opened passes below => exact Store.law_of_closed passes (staged _ opened).1 below

/-! ## Operations that keep the store -/

section Kept

variable (s : State)

theorem State.addStranger_store (x : Stranger) : (s.addStranger x).store = s.store := by
  unfold State.addStranger
  dsimp only
  split_ifs <;> rfl

theorem State.miss_store (n : ChannelNo) : (s.miss n).store = s.store := by
  unfold State.miss
  dsimp only
  split <;> rfl

theorem State.channelMiss_store (n : ChannelNo) : (s.channelMiss n).store = s.store := by
  unfold State.channelMiss
  split <;> [exact s.miss_store n; rfl]

theorem State.boundAnswer_store (n : ChannelNo) (a : Answer) (command : DriveCommand) :
    (s.boundAnswer n a command).store = s.store := State.raiseOption_store _ _

theorem State.channelAnswer_store (n : ChannelNo) (a : Answer) (command : DriveCommand) :
    (s.channelAnswer n a command).store = s.store := by
  unfold State.channelAnswer
  dsimp only
  split
  · split_ifs
    · exact s.boundAnswer_store n a command
    · exact s.miss_store n
    · exact (State.miss_store _ n).trans (s.addStranger_store _)
  · split <;> [rfl; exact s.addStranger_store _]

theorem State.goodAnswer_store (x : Exchange) (a : Answer) : (s.goodAnswer x a).store = s.store := by
  unfold State.goodAnswer
  split
  · exact s.channelAnswer_store _ a _
  · rfl
  · rfl
  · unfold State.discoveryAnswer
    split <;> [rfl; exact s.addStranger_store _]

theorem State.garbledAnswer_store (x : Exchange) : (s.garbledAnswer x).store = s.store := by
  unfold State.garbledAnswer
  dsimp only
  split
  · exact (State.channelMiss_store _ _).trans (s.logError_store _ _ _)
  · exact s.logError_store _ _ _

theorem State.noAnswer_store (x : Exchange) : (s.noAnswer x).store = s.store := by
  unfold State.noAnswer
  split <;> [exact s.channelMiss_store _; rfl; rfl; rfl]

theorem State.closeWindow_store : s.closeWindow.store = s.store := by
  unfold State.closeWindow
  split <;> [rfl; exact State.noAnswer_store _ _]

theorem State.acceptContact_store : s.acceptContact.store = s.store := by
  unfold State.acceptContact
  dsimp only
  split <;> rfl

/-- A supply that the commit brings back to OK leaves the store. -/
theorem State.commit_store (new : ConfigSet) : (s.commit new).store = ⟨new, none, s.store.generation + 1⟩ := by
  unfold State.commit State.commitSupply
  dsimp only
  split <;> [exact State.changeSupply_store _ _; rfl]

/-- A reply leaves the store, or the node reset that it brings about discards what is staged (R146, R159). -/
theorem State.reply_store_cases (p : TrunkPort) (f : Frame) (a : Nat) (status : Status) (body : List Byte)
    (reset : Bool) :
    (s.reply p f a status body reset).store = s.store
      ∨ (s.reply p f a status body reset).store = { s.store with staged := none } := by
  unfold State.reply
  dsimp only
  split
  · split <;> exact .inl rfl
  · have logged := s.logFrame_store .queueFull p f
    split
    · exact .inr (congrArg (fun store : Store => { store with staged := none }) logged)
    · exact .inl logged
  · split <;> [exact .inr rfl; exact .inl rfl]

theorem State.actAndForward_store (p : TrunkPort) (f : Frame) (act : State → Acted) :
    (s.actAndForward p f act).store = (act s).state.store := by
  unfold State.actAndForward
  dsimp only
  split
  · split <;> simp
  · simp
  · simp

end Kept

/-! ## Owners -/

/-- Whatever state it finds, the owner makes one of the listed changes of the store. -/
def Owner.StoreFollows (o : Owner) : Prop := ∀ s : State, s.store.Follows (o.act s).state.store

theorem Owner.StoreFollows.run {o : Owner} (h : o.StoreFollows) (src : Nat) (s : State) :
    s.store.Follows (o.run src s).state.store := by
  unfold Owner.run
  split
  · exact s.hear_store src ▸ h (s.hear src)
  · exact s.supervise_store src ▸ h (s.supervise src)

theorem State.receive_storeFollows (s : State) (p : TrunkPort) (f : Frame) (owner : Option Owner)
    (h : ∀ o ∈ owner, o.StoreFollows) : s.store.Follows (s.receive p f owner).store := by
  obtain ⟨-, repeater⟩ | ⟨-, loop⟩ | ⟨a, -, -, arrived⟩ := s.receive_cases p f owner
  · exact .of_eq (repeater ▸ s.forwardOnly_store p f)
  · exact .of_eq (loop ▸ s.logFrame_store _ p f)
  · obtain ⟨-, o, ho, acts⟩ | ⟨-, -, acts⟩ | ⟨-, -, -, o, ho, acts⟩ | ⟨-, -, acts⟩ := arrived
    · have ran := (h o ho).run f.src s
      have logged := (o.run f.src s).state.logOption_store (o.run f.src s).error p f
      rw [← logged] at ran
      rw [acts]
      obtain same | reset := State.reply_store_cases
        ((o.run f.src s).state.logOption (o.run f.src s).error p f) p f a (o.run f.src s).status
        (o.run f.src s).body (o.run f.src s).reset
      · exact same.symm ▸ ran
      · exact reset.symm ▸ ran.discard
    · exact .of_eq (acts ▸ s.supervise_store f.src)
    · exact acts ▸ s.actAndForward_store p f _ ▸ (h o ho).run f.src s
    · exact .of_eq (acts ▸ (State.forwardOnly_store _ p f).trans (s.supervise_store f.src))

/-- An owner that keeps the store. -/
theorem Owner.storeFollows_of_kept {o : Owner} (h : ∀ s, (o.act s).state.store = s.store) : o.StoreFollows :=
  fun s => .of_eq (h s)

theorem actZoneAlarm_store (zone : Nat) (episode : Option Positions) (s : State) :
    (actZoneAlarm zone episode s).state.store = s.store := by
  unfold actZoneAlarm
  split
  · rfl
  · split <;> rfl

theorem actZoneReset_store (zone : Nat) (s : State) : (actZoneReset zone s).state.store = s.store := by
  unfold actZoneReset
  split
  · rfl
  · split <;> rfl

theorem actWeather_store (src speed direction rain : Nat) (s : State) :
    (actWeather src speed direction rain s).state.store = s.store := by
  unfold actWeather
  split <;> rfl

theorem actGroupSet_store (group position mode : Nat) (s : State) :
    (actGroupSet group position mode s).state.store = s.store := by
  unfold actGroupSet
  split <;> rfl

theorem actGroupRelease_store (group : Nat) (s : State) :
    (actGroupRelease group s).state.store = s.store := by
  unfold actGroupRelease
  split <;> rfl

theorem actCollect_store (s : State) : (actCollect s).state.store = s.store := by
  unfold actCollect
  split <;> rfl

theorem actLampSet_store (channel value : Nat) (s : State) :
    (actLampSet channel value s).state.store = s.store := by
  unfold actLampSet
  split <;> rfl

theorem actChannelClear_store (channel : Nat) (s : State) :
    (actChannelClear channel s).state.store = s.store := by
  unfold actChannelClear
  split
  · rfl
  · split <;> rfl

theorem actSupplyClear_store (s : State) : (actSupplyClear s).state.store = s.store := by
  unfold actSupplyClear
  split
  · dsimp only [Acted.ok]
    split <;> [rfl; exact s.changeSupply_store _]
  · rfl

theorem State.writeBase_eq (s : State) : s.writeBase = s.store.writeBase := by
  unfold State.writeBase Store.writeBase
  cases s.store.staged <;> rfl

/-- A SET_WRITE is refused, or one record of the staged set or of the copy is written (R138, R139). -/
theorem actSetWrite_storeFollows (src table index : Nat) (record : List Byte) :
    Owner.StoreFollows ⟨false, actSetWrite src table index record⟩ := by
  intro s
  dsimp only [actSetWrite]
  split
  · exact .kept
  · split
    · exact .kept
    · split
      · exact .kept
      · split
        · exact .kept
        next set accepted =>
          rw [s.writeBase_eq] at accepted
          split
          · exact .written src (ConfigSet.written_of_write accepted) (Nat.mod_lt _ (by decide))
          · exact .kept

/-- A SET_COMMIT is refused, or the staged set passes every check and is taken up (R140 to R142). -/
theorem actSetCommit_storeFollows (src tally generation : Nat) :
    Owner.StoreFollows ⟨true, actSetCommit src tally generation⟩ := by
  intro s
  dsimp only [actSetCommit]
  split
  · exact .kept
  next x opened =>
    split_ifs with _ _ _ largest
    any_goals exact .kept
    split
    · exact .kept
    next valid =>
      have taken : s.store.Follows ⟨x.set, none, s.store.generation + 1⟩ :=
        .committed opened valid (Nat.lt_of_not_le largest)
      exact s.commit_store x.set ▸ taken

theorem ownerOfRest_storeFollows (f : Frame) : ∀ o ∈ ownerOfRest f, o.StoreFollows := by
  unfold ownerOfRest
  split
  · exact nofun
  · rintro _ ⟨⟩ s
    exact .kept
  · exact nofun

/-! ## Commands -/

/-- Whatever next state the command answers, its store follows. -/
def State.OutcomeFollows (s : State) (o : Host.Outcome State Fault Refusal) : Prop :=
  ∀ t, o = .next t → s.store.Follows t.store

theorem Store.Follows.next {s t : State} (h : s.store.Follows t.store) : s.OutcomeFollows (.next t) :=
  fun _ same => Host.Outcome.next.inj same ▸ h

theorem State.outcomeFollows_of_kept {s t : State} (same : t.store = s.store) : s.OutcomeFollows (.next t) :=
  Store.Follows.next (.of_eq same)

/-- An event that has not come about changes nothing. -/
theorem State.outcomeFollows_whenDue {s t : State} (p : Prop) [Decidable p] (h : s.store.Follows t.store) :
    s.OutcomeFollows (if p then .next t else .next s) := by
  split <;> [exact h.next; exact State.outcomeFollows_of_kept rfl]

theorem Owner.StoreFollows.receive {o : Owner} (h : o.StoreFollows) (s : State) (p : TrunkPort)
    (f : Frame) : s.OutcomeFollows (.next (s.receive p f (some o))) :=
  (s.receive_storeFollows p f (some o) fun _ same => Option.some.inj same ▸ h).next

theorem execFrame_storeFollows (c : Instr) (s : State) : s.OutcomeFollows (execFrame c s) := by
  have answers {demand : Bool} {act : State → Acted} (h : ∀ t, (act t).state.store = t.store)
      (p : TrunkPort) (f : Frame) : s.OutcomeFollows (.next (s.receive p f (some ⟨demand, act⟩))) :=
    (Owner.storeFollows_of_kept (o := ⟨demand, act⟩) h).receive s p f
  cases c
  case unknownKind => exact answers (fun _ => rfl) _ _
  case zoneAlarm => exact answers (actZoneAlarm_store _ _) _ _
  case zoneReset => exact answers (actZoneReset_store _) _ _
  case weather => exact answers (actWeather_store _ _ _ _) _ _
  case groupSet => exact answers (actGroupSet_store _ _ _) _ _
  case groupRelease => exact answers (actGroupRelease_store _) _ _
  case setWrite => exact (actSetWrite_storeFollows _ _ _ _).receive s _ _
  case setCommit => exact (actSetCommit_storeFollows _ _ _).receive s _ _
  case setDiscard =>
    exact Owner.StoreFollows.receive (o := ⟨false, actSetDiscard⟩) (fun _ => .discarded) s _ _
  case read => exact answers (fun t => congrArg State.store (actRead_state _ _ _ t)) _ _
  case query => exact answers (fun t => congrArg State.store (actQuery_state _ _ t)) _ _
  case collect => exact answers actCollect_store _ _
  case lampSet => exact answers (actLampSet_store _ _) _ _
  case channelClear => exact answers (actChannelClear_store _) _ _
  case errorClear => exact answers (fun _ => rfl) _ _
  case supplyClear => exact answers actSupplyClear_store _ _
  case nodeReset => exact answers (fun _ => rfl) _ _
  all_goals exact State.outcomeFollows_of_kept rfl

theorem execFrameReception_storeFollows (p : TrunkPort) (period : Nat) (chars : List Byte) (s : State) :
    s.OutcomeFollows (execFrameReception p period chars s) := by
  unfold execFrameReception
  split
  · exact State.outcomeFollows_of_kept rfl
  · split
    · exact State.outcomeFollows_of_kept (s.logError_store _ _ _)
    · exact State.outcomeFollows_of_kept (s.logError_store _ _ _)
    · split
      · exact execFrame_storeFollows _ s
      · exact (s.receive_storeFollows p _ _ (ownerOfRest_storeFollows _)).next

theorem execSlotStart_storeFollows (s : State) : s.OutcomeFollows (execSlotStart s) := by
  have started (index : Fin 24) (start : Nat) : s.store.Follows (s.closeWindow.startSlot index start).store :=
    .of_eq s.closeWindow_store
  unfold execSlotStart
  split
  · exact State.outcomeFollows_of_kept rfl
  · exact State.outcomeFollows_whenDue _ (started _ _)
  · exact State.outcomeFollows_whenDue _ (started _ _)

theorem execBranchReception_storeFollows (chars : List Byte) (s : State) :
    s.OutcomeFollows (execBranchReception chars s) := by
  unfold execBranchReception
  split
  · exact State.outcomeFollows_of_kept rfl
  · split
    · split
      · exact State.outcomeFollows_of_kept (s.endExchange.goodAnswer_store _ _)
      · exact State.outcomeFollows_of_kept (s.endExchange.garbledAnswer_store _)
    · exact State.outcomeFollows_of_kept rfl

theorem execAnswerWindowClose_storeFollows (s : State) : s.OutcomeFollows (execAnswerWindowClose s) := by
  unfold execAnswerWindowClose
  split
  · exact State.outcomeFollows_of_kept rfl
  · exact State.outcomeFollows_whenDue _ (.of_eq s.closeWindow_store)

theorem execSupplySample_storeFollows (reading : Nat) (s : State) :
    s.OutcomeFollows (execSupplySample reading s) := by
  unfold execSupplySample
  split
  · dsimp only
    split <;> [exact State.outcomeFollows_of_kept rfl;
      exact State.outcomeFollows_of_kept (s.changeSupply_store _)]
  · exact State.outcomeFollows_of_kept rfl

theorem execLinkDown_storeFollows (p : TrunkPort) (s : State) : s.OutcomeFollows (execLinkDown p s) := by
  unfold execLinkDown
  dsimp only
  split <;> [exact Store.Follows.next .discarded; exact State.outcomeFollows_of_kept rfl]

theorem State.endTransmission_storeFollows (s : State) (p : TrunkPort) :
    s.store.Follows (s.endTransmission p).store := by
  unfold State.endTransmission
  split
  · exact .kept
  · dsimp only
    split <;> [exact .discarded; exact .kept]

theorem execNodeResetTakesEffect_storeFollows (s : State) :
    s.OutcomeFollows (execNodeResetTakesEffect s) := by
  unfold execNodeResetTakesEffect
  split
  · exact (s.endTransmission_storeFollows .up).next
  · exact State.outcomeFollows_whenDue _ (s.endTransmission_storeFollows .down)

/-- The frame commands change the store by their owners, the resets discard staging, and no other command but
POWER_ON touches it. -/
theorem exec_storeFollows (c : Instr) (s : State)
    (notPowerOn : ∀ straps rate contact, c ≠ .powerOn straps rate contact) :
    s.OutcomeFollows (exec c s) := by
  have frame := execFrame_storeFollows c s
  have kept {t : State} (p : Prop) [Decidable p] (same : t.store = s.store) :
      s.OutcomeFollows (if p then .next t else .next s) := State.outcomeFollows_whenDue p (.of_eq same)
  cases c
  case powerOn straps rate contact => exact absurd rfl (notPowerOn straps rate contact)
  case linkDown p => exact execLinkDown_storeFollows p s
  case linkUp => exact State.outcomeFollows_of_kept rfl
  case frameReception p period chars => exact execFrameReception_storeFollows p period chars s
  case nodeResetTakesEffect => exact execNodeResetTakesEffect_storeFollows s
  case transmissionEnd p => exact (s.endTransmission_storeFollows p).next
  case transmissionStart => exact kept _ rfl
  case contactInputChange => exact State.outcomeFollows_of_kept rfl
  case pendingChangeAccepted => exact kept _ s.acceptContact_store
  case panelTimeout => exact kept _ rfl
  case rainHoldExpiry => exact kept _ rfl
  case stormHoldExpiry => exact kept _ rfl
  case stationTimeout => exact kept _ rfl
  case dwellExpiry => exact kept _ rfl
  case retryExpiry => exact kept _ rfl
  case supplySample reading => exact execSupplySample_storeFollows reading s
  case slotStart => exact execSlotStart_storeFollows s
  case branchReception chars => exact execBranchReception_storeFollows chars s
  case answerWindowClose => exact execAnswerWindowClose_storeFollows s
  all_goals exact frame

/-- Settles O60: of the changes a command can make, the commit alone concerns the active set. -/
theorem onlyCommitsChangeActiveSet : Obligations.OnlyCommitsChangeActiveSet :=
  fun c s t notPowerOn ran => (exec_storeFollows c s notPowerOn t ran).active

/-! ## The law of the store (R141, R138) -/

/-- The default set holds allowed values: every table but the layers repeats one record. -/
theorem defaultSet_inRange : defaultSet.InRange := by
  refine ⟨fun n => ?_, by decide, fun z => ?_, by decide, by decide⟩
  · rw [defaultSet, Table.get_fill]
    decide
  · rw [defaultSet, Table.get_fill]
    decide

theorem defaultSet_valid : failure defaultSet = none := by decide

theorem exec_keepsStoreLaw (c : Instr) {s t : State} (law : s.StoreLaw) (ran : exec c s = .next t) :
    t.StoreLaw := by
  by_cases power : ∃ straps rate contact, c = .powerOn straps rate contact
  · obtain ⟨straps, rate, contact, rfl⟩ := power
    cases ran
    exact Store.law_of_closed defaultSet_valid defaultSet_inRange (Nat.zero_le _)
  · have notPowerOn (straps : Nat) (rate : LineRate) (contact : Level) :
        c ≠ .powerOn straps rate contact := fun same => power ⟨straps, rate, contact, same⟩
    exact (exec_storeFollows c s notPowerOn t ran).law law

/-- Settles O58: power-on starts from the default set, and every other change of the store keeps the law. -/
theorem stepKeepsStoreLaw : Obligations.StepKeepsStoreLaw := by
  intro s t law ran
  unfold step at ran
  split at ran
  · cases ran
    exact law
  next c rest _ => exact exec_keepsStoreLaw c (s := s.setPending rest) law ran

end Sys2Proof.Machine

/-! SUPPORT. SET_WRITE, SET_COMMIT's refusals, SET_DISCARD and READ (R138 to R144): each owner's tests in their
order, said once by case, and the statements assembled from them. -/

namespace Sys2Proof.Machine

/-! ## Replies, and owners that join the event's composition (R38, R138, R140) -/

/-- Replies about staging speak of the store alone. -/
theorem State.stagingBody_congr {s t : State} (store : t.store = s.store) : t.stagingBody = s.stagingBody := by
  rw [State.stagingBody, State.stagingBody, store]

/-- A frame addressed to the node whose owner joins the event's one composition and reports no line error. -/
theorem State.receive_of_joins (s : State) (p : TrunkPort) (f : Frame) (act : State → Acted) (a : Nat)
    (address : s.trunk.address = some a) (notLooped : f.src ≠ a) (here : f.dst = a) {t : State}
    {status : Status} {body : List Byte} (acts : act (s.hear f.src) = ⟨t, none, status, body, false⟩) :
    s.receive p f (some ⟨true, act⟩) = (t.settle s).reply p f a status body false := by
  rw [s.receive_addressed p f _ a address notLooped here]
  simp [State.consume, Owner.run, acts, State.logOption]

/-! ## SET_WRITE's tests (R138, R139) -/

section SetWrite

variable {s : State} {src code index : Nat} {record : List Byte} {t : TableName}

theorem actSetWrite_of_no_table (unnamed : tableOf code = none) :
    actSetWrite src code index record s = Acted.refuse .badTable s.stagingBody s := by
  simp only [actSetWrite, unnamed]

theorem actSetWrite_of_large_index (named : tableOf code = some t) (length : record.length = t.recordLength)
    (large : t.count ≤ index) :
    actSetWrite src code index record s = Acted.refuse .badIndex s.stagingBody s := by
  simp only [actSetWrite, named, length, ne_eq, not_true_eq_false, if_false, if_pos large]

theorem actSetWrite_of_inside (named : tableOf code = some t) (length : record.length = t.recordLength)
    (inside : index < t.count) :
    actSetWrite src code index record s
      = (s.store.writeBase.write t index record).elim (Acted.refuse .badValue s.stagingBody s) fun set =>
          if s.mayWrite src then
            let s1 := s.setStaged (some ⟨set, src, (s.writeTally + 1) % 65536⟩)
            Acted.ok s1.stagingBody s1
          else Acted.refuse .stagingOwned s.stagingBody s := by
  simp only [actSetWrite, named, length, ne_eq, not_true_eq_false, if_false,
    if_neg (Nat.not_le_of_lt inside), s.writeBase_eq]
  cases s.store.writeBase.write t index record <;> rfl

theorem actSetWrite_of_bad_value (named : tableOf code = some t) (length : record.length = t.recordLength)
    (inside : index < t.count) (rejected : s.store.writeBase.write t index record = none) :
    actSetWrite src code index record s = Acted.refuse .badValue s.stagingBody s := by
  rw [actSetWrite_of_inside named length inside, rejected, Option.elim_none]

theorem State.mayWrite_iff : s.mayWrite src = true ↔ ∀ x ∈ s.store.staged, x.opener = src := by
  unfold State.mayWrite
  cases s.store.staged <;> simp

theorem actSetWrite_of_owned (named : tableOf code = some t) (length : record.length = t.recordLength)
    (inside : index < t.count) {set : ConfigSet}
    (accepted : s.store.writeBase.write t index record = some set)
    (owned : ¬ ∀ x ∈ s.store.staged, x.opener = src) :
    actSetWrite src code index record s = Acted.refuse .stagingOwned s.stagingBody s := by
  rw [actSetWrite_of_inside named length inside, accepted]
  exact if_neg (mt State.mayWrite_iff.mp owned)

theorem State.writeTally_eq : s.writeTally = (s.store.staged.map (·.tally)).getD 0 := by
  unfold State.writeTally
  cases s.store.staged <;> rfl

theorem actSetWrite_of_accepted (named : tableOf code = some t) (length : record.length = t.recordLength)
    (inside : index < t.count) {set : ConfigSet}
    (accepted : s.store.writeBase.write t index record = some set)
    (own : ∀ x ∈ s.store.staged, x.opener = src) :
    let tally := ((s.store.staged.map (·.tally)).getD 0 + 1) % 65536
    actSetWrite src code index record s
      = Acted.ok (byte 1 :: be16 tally ++ be32 s.store.generation)
          (s.setStore ⟨s.store.active, some ⟨set, src, tally⟩, s.store.generation⟩) := by
  rw [actSetWrite_of_inside named length inside, accepted]
  refine (if_pos (State.mayWrite_iff.mpr own)).trans ?_
  rw [State.writeTally_eq]
  rfl

end SetWrite

/-- Settles O24: the owner writes to what supervision leaves, whose store is the one before. -/
theorem setWriteStagesRecord : Obligations.SetWriteStagesRecord := by
  intro rx t code index a record set s ⟨address, notLooped⟩ here named length inside base tally accepted own
  have store : (s.supervise rx.src).store = s.store := s.supervise_store rx.src
  have same : (s.supervise rx.src).store.writeBase = base := congrArg Store.writeBase store
  have acts := actSetWrite_of_accepted (s := s.supervise rx.src) (src := rx.src) named length inside
    (same ▸ accepted) (store.symm ▸ own)
  rw [store] at acts
  exact congrArg Host.Outcome.next (s.receive_of_answers rx.port _ _ a address notLooped here acts)

/-! ## SET_COMMIT's tests (R140, R141) -/

section SetCommit

variable {s : State} {src tally generation : Nat} {x : Staged}

theorem actSetCommit_of_closed (closed : s.store.staged = none) :
    actSetCommit src tally generation s = Acted.refuse .notOpen s.stagingBody s := by
  simp only [actSetCommit, closed]

theorem actSetCommit_of_owned (opened : s.store.staged = some x) (owned : x.opener ≠ src) :
    actSetCommit src tally generation s = Acted.refuse .stagingOwned s.stagingBody s := by
  simp only [actSetCommit, opened, if_pos owned]

theorem actSetCommit_of_tally (opened : s.store.staged = some x) (own : x.opener = src)
    (mismatch : tally ≠ x.tally) :
    actSetCommit src tally generation s = Acted.refuse .tallyMismatch s.stagingBody s := by
  simp only [actSetCommit, opened, own, ne_eq, not_true_eq_false, if_false, if_pos mismatch]

theorem actSetCommit_of_generation (opened : s.store.staged = some x) (own : x.opener = src)
    (counted : tally = x.tally)
    (mismatch : generation ≠ s.store.generation ∨ Config.generationMax ≤ s.store.generation) :
    actSetCommit src tally generation s = Acted.refuse .generationMismatch s.stagingBody s := by
  simp only [actSetCommit, opened, own, counted, ne_eq, not_true_eq_false, if_false]
  by_cases other : generation = s.store.generation
  · rw [if_neg (not_not_intro other), if_pos (mismatch.resolve_left (not_not_intro other))]
  · rw [if_pos other]

/-- Past the four tests of R140 the staged set is validated. -/
theorem actSetCommit_of_agreed (opened : s.store.staged = some x) (own : x.opener = src)
    (below : s.store.generation < Config.generationMax) :
    actSetCommit src x.tally s.store.generation s
      = (failure x.set).elim (Acted.ok (s.commit x.set).stagingBody (s.commit x.set)) fun k =>
          Acted.refuse .invalidSet (s.stagingBody ++ byte k.check :: k.item.bytes) s := by
  simp only [actSetCommit, opened, own, ne_eq, not_true_eq_false, if_false, if_neg (Nat.not_le_of_lt below)]
  cases failure x.set <;> rfl

theorem actSetCommit_of_invalid (opened : s.store.staged = some x) (own : x.opener = src)
    (below : s.store.generation < Config.generationMax) {k : Failure} (fails : failure x.set = some k) :
    actSetCommit src x.tally s.store.generation s
      = Acted.refuse .invalidSet (s.stagingBody ++ byte k.check :: k.item.bytes) s := by
  rw [actSetCommit_of_agreed opened own below, fails, Option.elim_some]

theorem actSetCommit_of_valid (opened : s.store.staged = some x) (own : x.opener = src)
    (below : s.store.generation < Config.generationMax) (valid : failure x.set = none) :
    actSetCommit src x.tally s.store.generation s
      = Acted.ok (byte 0 :: be16 0 ++ be32 (s.store.generation + 1)) (s.commit x.set) := by
  have store := s.commit_store x.set
  have body : (s.commit x.set).stagingBody = byte 0 :: be16 0 ++ be32 (s.store.generation + 1) := by
    rw [State.stagingBody, store]
  rw [actSetCommit_of_agreed opened own below, valid]
  exact congrArg (fun b => Acted.ok b (s.commit x.set)) body

end SetCommit

/-- Settles O25: the owner's first failing test on what supervision leaves, whose store is the one before. -/
theorem setRefusalsInOrder : Obligations.SetRefusalsInOrder := by
  refine ⟨fun rx code index a record s ⟨address, notLooped⟩ here => ?write,
    fun rx tally generation a s ⟨address, notLooped⟩ here => ?commit⟩
  case write =>
    intro s1 refused base
    have store : s1.store = s.store := s.supervise_store rx.src
    have body : s1.stagingBody = s.stagingBody := State.stagingBody_congr store
    have same : s1.store.writeBase = base := congrArg Store.writeBase store
    have refuses {status : Status}
        (acts : actSetWrite rx.src code index record s1 = Acted.refuse status s1.stagingBody s1) :
        refused status :=
      congrArg Host.Outcome.next
        (s.receive_of_answers rx.port _ _ a address notLooped here (acts.trans (body ▸ rfl)))
    refine ⟨fun unnamed => refuses (actSetWrite_of_no_table unnamed), fun t named length =>
      ⟨fun large => refuses (actSetWrite_of_large_index named length large), fun inside rejected =>
        refuses (actSetWrite_of_bad_value named length inside (same ▸ rejected)),
        fun inside allowed x opened other => ?_⟩⟩
    obtain ⟨set, accepted⟩ := Option.ne_none_iff_exists'.mp allowed
    exact refuses (actSetWrite_of_owned named length inside (same ▸ accepted) fun own =>
      other (own x (store ▸ opened)))
  case commit =>
    intro s1 refused
    have store : (s.hear rx.src).store = s.store := s.hear_store rx.src
    have body : (s.hear rx.src).stagingBody = s.stagingBody := State.stagingBody_congr store
    have refuses {status : Status} {reply : List Byte}
        (acts : actSetCommit rx.src tally generation (s.hear rx.src)
          = Acted.refuse status reply (s.hear rx.src)) : refused status reply :=
      congrArg Host.Outcome.next (s.receive_of_joins rx.port _ _ a address notLooped here acts)
    rw [← body, ← store]
    refine ⟨fun closed => refuses (actSetCommit_of_closed closed), fun x opened =>
      ⟨fun owned => refuses (actSetCommit_of_owned opened owned), fun own mismatch =>
        refuses (actSetCommit_of_tally opened own mismatch), fun own counted mismatch =>
        refuses (actSetCommit_of_generation opened own counted mismatch), ?_⟩⟩
    rintro own rfl rfl below k fails
    rw [List.append_assoc]
    exact refuses (actSetCommit_of_invalid opened own below fails)

/-! ## SET_DISCARD (R143) -/

/-- Settles O30: the owner closes staging on what supervision leaves, whose store is the one before. -/
theorem setDiscardClosesStaging : Obligations.SetDiscardClosesStaging := by
  intro rx a s ⟨address, notLooped⟩ here
  have store : (s.supervise rx.src).store = s.store := s.supervise_store rx.src
  have acts : actSetDiscard (s.supervise rx.src)
      = Acted.ok (byte 0 :: be16 0 ++ be32 s.store.generation)
          ((s.supervise rx.src).setStore ⟨s.store.active, none, s.store.generation⟩) := by
    rw [← store]
    rfl
  exact congrArg Host.Outcome.next (s.receive_of_answers rx.port _ _ a address notLooped here acts)

/-! ## READ (R144) -/

section Read

variable {s : State} {table index copy : Nat} {t : TableName}

theorem actRead_of_no_table (other : table ≠ 8) (unnamed : tableOf table = none) :
    actRead table index copy s = Acted.refuse .badTable s.generationBody s := by
  have notStrangers : ¬ table = strangersCode := other
  simp only [actRead, if_neg notStrangers, unnamed]

/-- The tests of a READ of the Stranger List. -/
theorem actRead_strangers :
    actRead 8 index copy s
      = if 8 ≤ index then Acted.refuse .badIndex s.generationBody s
        else if copy ≠ 0 then Acted.refuse .badValue s.generationBody s
        else Acted.ok (s.strangerBody index) s := rfl

theorem ne_strangersCode_of_tableOf (named : tableOf table = some t) : ¬ table = strangersCode := by
  rintro rfl
  cases named

theorem actRead_of_large_index (named : tableOf table = some t) (large : t.count ≤ index) :
    actRead table index copy s = Acted.refuse .badIndex s.generationBody s := by
  simp only [actRead, if_neg (ne_strangersCode_of_tableOf named), named, if_pos large]

/-- The copies of a READ of a set's record. -/
theorem actRead_of_inside (named : tableOf table = some t) (inside : index < t.count) :
    actRead table index copy s
      = if copy = 0 then Acted.ok (be32 s.store.generation ++ s.store.active.recordBytes t index) s
        else if copy = 1 then
          s.store.staged.elim (Acted.refuse .notOpen s.generationBody s) fun x =>
            Acted.ok (be16 x.tally ++ x.set.recordBytes t index) s
        else Acted.refuse .badValue s.generationBody s := by
  simp only [actRead, if_neg (ne_strangersCode_of_tableOf named), named, if_neg (Nat.not_le_of_lt inside)]
  cases s.store.staged <;> rfl

theorem State.strangerBody_of_entry {e : Stranger} (entry : s.branch.strangers[index]? = some e) :
    s.strangerBody index
      = be32 s.store.generation
          ++ [byte s.branch.strangers.length, byte ((if s.branch.overflow then 1 else 0) + 2), byte e.station]
          ++ be48 e.serial.toNat := by
  simp only [State.strangerBody, entry]
  rfl

theorem State.strangerBody_of_no_entry (absent : s.branch.strangers[index]? = none) :
    s.strangerBody index
      = be32 s.store.generation
          ++ [byte s.branch.strangers.length, byte (if s.branch.overflow then 1 else 0), 0]
          ++ [0, 0, 0, 0, 0, 0] := by
  simp only [State.strangerBody, absent]
  rfl

end Read

/-- Settles O31: the owner's tests on what supervision leaves, whose store and Stranger List are those before. -/
theorem readReturnsRecord : Obligations.ReadReturnsRecord := by
  intro rx table index copy a s ⟨address, notLooped⟩ here answers generation
  have store : (s.supervise rx.src).store = s.store := s.supervise_store rx.src
  have branch : (s.supervise rx.src).branch = s.branch := s.supervise_branch rx.src
  have answered {status : Status} {body : List Byte}
      (acts : actRead table index copy (s.supervise rx.src)
        = ⟨s.supervise rx.src, none, status, body, false⟩) : answers status body :=
    congrArg Host.Outcome.next (s.receive_of_answers rx.port _ _ a address notLooped here acts)
  have same : generation = (s.supervise rx.src).generationBody :=
    congrArg (fun x : Store => be32 x.generation) store.symm
  rw [same]
  refine ⟨fun other unnamed => answered (actRead_of_no_table other unnamed), ?_, ?_, ?_, ?_,
    fun t named => ⟨fun large => answered (actRead_of_large_index named large), ?_, ?_, ?_, ?_⟩⟩
  · rintro rfl large
    exact answered (if_pos large)
  · rintro rfl small other
    exact answered (actRead_strangers.trans ((if_neg (Nat.not_le_of_lt small)).trans (if_pos other)))
  · rintro rfl small rfl e entry
    rw [← branch] at entry ⊢
    refine answered (actRead_strangers.trans ((if_neg (Nat.not_le_of_lt small)).trans ?_))
    exact congrArg (fun b => Acted.ok b _) (State.strangerBody_of_entry entry)
  · rintro rfl small rfl absent
    rw [← branch] at absent ⊢
    refine answered (actRead_strangers.trans ((if_neg (Nat.not_le_of_lt small)).trans ?_))
    exact congrArg (fun b => Acted.ok b _) (State.strangerBody_of_no_entry absent)
  · rintro inside rfl
    rw [← store]
    exact answered (actRead_of_inside named inside)
  · rintro inside rfl closed
    rw [← store] at closed
    refine answered ((actRead_of_inside named inside).trans ?_)
    simp only [Nat.one_ne_zero, if_false, if_true, closed]
    rfl
  · rintro inside rfl x opened
    rw [← store] at opened
    refine answered ((actRead_of_inside named inside).trans ?_)
    simp only [Nat.one_ne_zero, if_false, if_true, opened]
    rfl
  · intro inside other
    refine answered ((actRead_of_inside named inside).trans ?_)
    rw [if_neg (by omega), if_neg (by omega)]
    rfl

end Sys2Proof.Machine

/-! SUPPORT. The validation checks V1 to V7 (R141): what each check looks for, as a proposition, where it passes,
and which item it names. -/

namespace Sys2Proof.Machine

/-! ## The first that a list's search finds -/

/-- A search through a list in ascending order finds the least member that passes. -/
theorem find?_eq_some_of_least {α : Type} (rank : α → Nat) {p : α → Bool} {a : α} (passes : p a = true)
    (least : ∀ x, rank x < rank a → ¬ p x = true) :
    ∀ l : List α, (l.Pairwise fun x y => rank x < rank y) → a ∈ l → l.find? p = some a
  | [], _, mem => absurd mem List.not_mem_nil
  | b :: l, ascending, mem => by
    obtain ⟨before, ascending⟩ := List.pairwise_cons.mp ascending
    obtain rfl | later := List.mem_cons.mp mem
    · exact List.find?_cons_of_pos passes
    · rw [List.find?_cons_of_neg (least b (before a later))]
      exact find?_eq_some_of_least rank passes least l ascending later

theorem mem_layersInOrder (l : Layer) : l ∈ layersInOrder := by cases l <;> decide

theorem find?_layers_eq_some {p : Layer → Bool} {l : Layer} (passes : p l = true)
    (least : ∀ x : Layer, x.index < l.index → ¬ p x = true) : layersInOrder.find? p = some l :=
  find?_eq_some_of_least Layer.index passes least _ (by decide) (mem_layersInOrder l)

theorem find?_layers_eq_none_iff {p : Layer → Bool} :
    layersInOrder.find? p = none ↔ ∀ l, ¬ p l = true :=
  List.find?_eq_none.trans ⟨fun h l => h l (mem_layersInOrder l), fun h l _ => h l⟩

theorem find?_finRange_eq_some {n : Nat} {p : Fin n → Bool} {k : Fin n} (passes : p k = true)
    (least : ∀ j, j < k → ¬ p j = true) : (List.finRange n).find? p = some k :=
  find?_eq_some_of_least Fin.val passes least _ (List.pairwise_lt_finRange n) (List.mem_finRange k)

theorem find?_finRange_eq_none_iff {n : Nat} {p : Fin n → Bool} :
    (List.finRange n).find? p = none ↔ ∀ k, ¬ p k = true :=
  List.find?_eq_none.trans ⟨fun h k => h k (List.mem_finRange k), fun h k _ => h k⟩

/-! ## V1 and V2: the layer table -/

section Layers

variable {t : LayerTable} {l : Layer}

/-- A layer has the priority of one before it in table order (V1). -/
abbrev LayerTable.Repeats (t : LayerTable) (l : Layer) : Prop :=
  ∃ x : Layer, x.index < l.index ∧ (t.get x).priority = (t.get l).priority

/-- A layer has a mode source that is another's (V2). -/
abbrev LayerTable.Misused (t : LayerTable) (l : Layer) : Prop :=
  ((t.get l).source = .cell ∧ l ≠ .c) ∨ ((t.get l).source = .channel ∧ l ≠ .s)

theorem repeatsPriority_iff : repeatsPriority t l = true ↔ t.Repeats l := by
  simp [repeatsPriority, mem_layersInOrder]

theorem failsV1_of_base (h : t.b.priority ≠ 0) : failsV1 t = some ⟨1, .layer .b⟩ := if_pos h

theorem failsV1_of_repeats (base : t.b.priority = 0) (repeats : t.Repeats l)
    (first : ∀ x : Layer, x.index < l.index → ¬ t.Repeats x) : failsV1 t = some ⟨1, .layer l⟩ := by
  have found : layersInOrder.find? (repeatsPriority t) = some l :=
    find?_layers_eq_some (repeatsPriority_iff.mpr repeats) fun x before =>
      mt repeatsPriority_iff.mp (first x before)
  rw [failsV1, if_neg (not_not_intro base), found]
  rfl

theorem failsV1_eq_none_iff :
    failsV1 t = none
      ↔ t.b.priority = 0 ∧ ∀ x y : Layer, x ≠ y → (t.get x).priority ≠ (t.get y).priority := by
  refine ⟨fun passes => ⟨?_, fun x y apart same => apart (priority_injective_of_V1 t passes same)⟩, ?_⟩
  · by_contra base
    exact nomatch passes.symm.trans (failsV1_of_base base)
  · rintro ⟨base, distinct⟩
    have found : layersInOrder.find? (repeatsPriority t) = none := by
      refine find?_layers_eq_none_iff.mpr fun l repeats => ?_
      obtain ⟨x, before, same⟩ := repeatsPriority_iff.mp repeats
      exact distinct x l (fun e => Nat.lt_irrefl _ (e ▸ before)) same
    rw [failsV1, if_neg (not_not_intro base), found]
    rfl

theorem sourceAllowed_iff : (!sourceAllowed l (t.get l).source) = true ↔ t.Misused l := by
  unfold LayerTable.Misused
  cases (t.get l).source <;> simp [sourceAllowed]

theorem failsV2_of_misused (misused : t.Misused l)
    (first : ∀ x : Layer, x.index < l.index → ¬ t.Misused x) : failsV2 t = some ⟨2, .layer l⟩ := by
  rw [failsV2, find?_layers_eq_some (sourceAllowed_iff.mpr misused) fun x before =>
    mt sourceAllowed_iff.mp (first x before)]
  rfl

theorem failsV2_eq_none_iff : failsV2 t = none ↔ ∀ l, ¬ t.Misused l :=
  Option.map_eq_none_iff.trans
    (find?_layers_eq_none_iff.trans (forall_congr' fun _ => not_congr sourceAllowed_iff))

end Layers

/-! ## V3 and V4: the channels -/

section Channels

variable {set : ConfigSet} {n : ChannelNo}

abbrev ConfigSet.Uses (set : ConfigSet) (n : ChannelNo) : Prop := (set.channels.get n).inUse = true

/-- An in-use channel shares the station or the present serial of an in-use channel before it (V3). -/
abbrev ConfigSet.Shares (set : ConfigSet) (n : ChannelNo) : Prop :=
  set.Uses n ∧ ∃ m, m < n ∧ set.Uses m
    ∧ ((set.channels.get m).station = (set.channels.get n).station
        ∨ ∃ y, (set.channels.get m).serial = some y ∧ (set.channels.get n).serial = some y)

/-- An in-use channel has its travel limits crossed or its currents not apart (V4). -/
abbrev ConfigSet.Breaks (set : ConfigSet) (n : ChannelNo) : Prop :=
  set.Uses n
    ∧ ¬ ((set.channels.get n).travelMin ≤ (set.channels.get n).travelMax
        ∧ (set.channels.get n).noloadMa < (set.channels.get n).stallMa)

theorem clashes_iff (a b : ChannelRecord) :
    clashes a b = true ↔ a.station = b.station ∨ ∃ y, a.serial = some y ∧ b.serial = some y := by
  unfold clashes
  cases a.serial <;> simp [@eq_comm _ (some _) b.serial]

theorem shares_iff :
    ((set.channels.get n).inUse
      && channelNos.any fun m =>
        decide (m < n) && (set.channels.get m).inUse
          && clashes (set.channels.get m) (set.channels.get n)) = true ↔ set.Shares n := by
  simp [channelNos, clashes_iff, and_assoc]

theorem failsV3_of_shares (shares : set.Shares n) (first : ∀ m, m < n → ¬ set.Shares m) :
    failsV3 set = some ⟨3, .channel n⟩ :=
  congrArg (Option.map fun n => (⟨3, .channel n⟩ : Failure))
    (find?_finRange_eq_some (shares_iff.mpr shares) fun m before => mt shares_iff.mp (first m before))

theorem failsV3_eq_none_iff : failsV3 set = none ↔ ∀ n, ¬ set.Shares n :=
  Option.map_eq_none_iff.trans
    (find?_finRange_eq_none_iff.trans (forall_congr' fun _ => not_congr shares_iff))

theorem breaks_iff :
    ((set.channels.get n).inUse
      && (decide ((set.channels.get n).travelMax < (set.channels.get n).travelMin)
        || decide ((set.channels.get n).stallMa ≤ (set.channels.get n).noloadMa))) = true
      ↔ set.Breaks n := by
  simp only [Bool.and_eq_true, Bool.or_eq_true, decide_eq_true_eq]
  exact and_congr_right fun _ => by omega

theorem failsV4_of_breaks (breaks : set.Breaks n) (first : ∀ m, m < n → ¬ set.Breaks m) :
    failsV4 set = some ⟨4, .channel n⟩ :=
  congrArg (Option.map fun n => (⟨4, .channel n⟩ : Failure))
    (find?_finRange_eq_some (breaks_iff.mpr breaks) fun m before => mt breaks_iff.mp (first m before))

theorem failsV4_eq_none_iff : failsV4 set = none ↔ ∀ n, ¬ set.Breaks n :=
  Option.map_eq_none_iff.trans
    (find?_finRange_eq_none_iff.trans (forall_congr' fun _ => not_congr breaks_iff))

end Channels

/-! ## V5: the cycle table -/

section Cycle

variable {set : ConfigSet}

/-- A slot names a channel that is not in use (V5). -/
abbrev ConfigSet.Spare (set : ConfigSet) (k : Fin 24) : Prop :=
  ∃ n, set.cycle.get k = .channel n ∧ ¬ set.Uses n

/-- No slot names an in-use channel (V5). -/
abbrev ConfigSet.Unnamed (set : ConfigSet) (n : ChannelNo) : Prop :=
  set.Uses n ∧ ∀ k, set.cycle.get k ≠ .channel n

theorem namesUnused_iff {k : Fin 24} : namesUnused set k = true ↔ set.Spare k := by
  unfold namesUnused ConfigSet.Spare
  cases set.cycle.get k <;> simp

theorem unnamed_iff {n : ChannelNo} :
    ((set.channels.get n).inUse && !namedInCycle set n) = true ↔ set.Unnamed n := by
  simp [namedInCycle, slotNos]

theorem find?_namesUnused_eq_none (used : ∀ k, ¬ set.Spare k) : slotNos.find? (namesUnused set) = none :=
  find?_finRange_eq_none_iff.mpr fun k => mt namesUnused_iff.mp (used k)

theorem find?_unnamed_eq_none (named : ∀ n, ¬ set.Unnamed n) :
    (channelNos.find? fun n => (set.channels.get n).inUse && !namedInCycle set n) = none :=
  find?_finRange_eq_none_iff.mpr fun n => mt unnamed_iff.mp (named n)

theorem failsV5_of_spare {k : Fin 24} (spare : set.Spare k) (first : ∀ j, j < k → ¬ set.Spare j) :
    failsV5 set = some ⟨5, .slot k⟩ := by
  have found : slotNos.find? (namesUnused set) = some k :=
    find?_finRange_eq_some (namesUnused_iff.mpr spare) fun j before => mt namesUnused_iff.mp (first j before)
  simp only [failsV5, found]

theorem failsV5_of_unnamed (used : ∀ k, ¬ set.Spare k) {n : ChannelNo} (unnamed : set.Unnamed n)
    (first : ∀ m, m < n → ¬ set.Unnamed m) : failsV5 set = some ⟨5, .channel n⟩ := by
  have found : (channelNos.find? fun n => (set.channels.get n).inUse && !namedInCycle set n) = some n :=
    find?_finRange_eq_some (unnamed_iff.mpr unnamed) fun m before => mt unnamed_iff.mp (first m before)
  simp only [failsV5, find?_namesUnused_eq_none used, found]

/-- Past the first two tests V5 asks for a DISCOVER slot. -/
theorem failsV5_of_named (used : ∀ k, ¬ set.Spare k) (named : ∀ n, ¬ set.Unnamed n) :
    failsV5 set = if ∃ k, set.cycle.get k = .discover then none else some ⟨5, .none⟩ := by
  have discover : (slotNos.any fun k => decide (set.cycle.get k = .discover)) = true
      ↔ ∃ k, set.cycle.get k = .discover := by simp [slotNos]
  simp only [failsV5, find?_namesUnused_eq_none used, find?_unnamed_eq_none named, discover]

theorem failsV5_eq_none_iff :
    failsV5 set = none
      ↔ (∀ k, ¬ set.Spare k) ∧ (∀ n, ¬ set.Unnamed n) ∧ ∃ k, set.cycle.get k = .discover := by
  refine ⟨fun passes => ?_, fun ⟨used, named, discover⟩ => ?_⟩
  · unfold failsV5 at passes
    split at passes
    · cases passes
    next used =>
      split at passes
      · cases passes
      next named =>
        split at passes
        next discover =>
          refine ⟨fun k => mt namesUnused_iff.mpr (find?_finRange_eq_none_iff.mp used k), fun n =>
            mt unnamed_iff.mpr (find?_finRange_eq_none_iff.mp named n), ?_⟩
          obtain ⟨k, -, slot⟩ := List.any_eq_true.mp discover
          exact ⟨k, of_decide_eq_true slot⟩
        next => cases passes
  · rw [failsV5_of_named used named, if_pos discover]

end Cycle

/-! ## The statement -/

theorem failsV6_eq_none_iff {set : ConfigSet} :
    failsV6 set = none ↔ set.weather.stormOff ≤ set.weather.stormOn := by
  simp [failsV6]

theorem failsV7_eq_none_iff {set : ConfigSet} :
    failsV7 set = none ↔ set.node.supplyMin < set.node.supplyMax := by
  simp [failsV7]

theorem failure_eq_none_iff {set : ConfigSet} :
    failure set = none
      ↔ failsV1 set.layers = none ∧ failsV2 set.layers = none ∧ failsV3 set = none ∧ failsV4 set = none
        ∧ failsV5 set = none ∧ failsV6 set = none ∧ failsV7 set = none := by
  simp only [failure, Option.or_eq_none_iff]

/-- Settles O29, check by check: the first that does not pass decides. -/
theorem validationNamesFirstFailure : Obligations.ValidationNamesFirstFailure := by
  intro set priority source used v1 repeats wrong v2 shares v3 breaks v4 spare unnamed v5 v6 v7
  have pass1 : failsV1 set.layers = none ↔ v1 := failsV1_eq_none_iff
  have pass2 : failsV2 set.layers = none ↔ v2 := failsV2_eq_none_iff
  have pass3 : failsV3 set = none ↔ v3 := failsV3_eq_none_iff
  have pass4 : failsV4 set = none ↔ v4 := failsV4_eq_none_iff
  have pass5 : failsV5 set = none ↔ v5 := failsV5_eq_none_iff
  have pass6 : failsV6 set = none ↔ v6 := failsV6_eq_none_iff
  have pass7 : failsV7 set = none ↔ v7 := failsV7_eq_none_iff
  have at2 (h1 : v1) {k : Failure} (fails : failsV2 set.layers = some k) : failure set = some k := by
    simp only [failure, pass1.mpr h1, fails, Option.none_or, Option.some_or]
  have at3 (h1 : v1) (h2 : v2) {k : Failure} (fails : failsV3 set = some k) : failure set = some k := by
    simp only [failure, pass1.mpr h1, pass2.mpr h2, fails, Option.none_or, Option.some_or]
  have at4 (h1 : v1) (h2 : v2) (h3 : v3) {k : Failure} (fails : failsV4 set = some k) :
      failure set = some k := by
    simp only [failure, pass1.mpr h1, pass2.mpr h2, pass3.mpr h3, fails, Option.none_or, Option.some_or]
  have past4 (h1 : v1) (h2 : v2) (h3 : v3) (h4 : v4) :
      failure set = (failsV5 set).or ((failsV6 set).or (failsV7 set)) := by
    simp only [failure, pass1.mpr h1, pass2.mpr h2, pass3.mpr h3, pass4.mpr h4, Option.none_or]
  refine ⟨?valid, fun base => ?base, fun base l repeated first => ?repeated,
    fun h1 l misused first => at2 h1 (failsV2_of_misused misused first),
    fun h1 h2 n shared first => at3 h1 h2 (failsV3_of_shares shared first),
    fun h1 h2 h3 n broken first => at4 h1 h2 h3 (failsV4_of_breaks broken first),
    fun h1 h2 h3 h4 => ⟨fun k isSpare first => ?spare, fun noSpare n isUnnamed first => ?unnamed,
      fun noSpare allNamed noDiscover => ?discover⟩,
    fun h1 h2 h3 h4 h5 h6 => ?storm, fun h1 h2 h3 h4 h5 h6 h7 => ?supply⟩
  case valid => rw [failure_eq_none_iff, pass1, pass2, pass3, pass4, pass5, pass6, pass7]
  case base => rw [failure, failsV1_of_base base, Option.some_or]
  case repeated => rw [failure, failsV1_of_repeats base repeated first, Option.some_or]
  case spare => rw [past4 h1 h2 h3 h4, failsV5_of_spare isSpare first, Option.some_or]
  case unnamed => rw [past4 h1 h2 h3 h4, failsV5_of_unnamed noSpare isUnnamed first, Option.some_or]
  case discover =>
    rw [past4 h1 h2 h3 h4, failsV5_of_named noSpare allNamed,
      if_neg fun ⟨k, slot⟩ => noDiscover k slot, Option.some_or]
  case storm => rw [past4 h1 h2 h3 h4, pass5.mpr h5, Option.none_or, failsV6, if_neg h6, Option.some_or]
  case supply =>
    rw [past4 h1 h2 h3 h4, pass5.mpr h5, pass6.mpr h6, Option.none_or, Option.none_or, failsV7, if_neg h7]

end Sys2Proof.Machine

/-! SUPPORT. An accepted SET_COMMIT (R142): what the commit leaves of each channel (R21, R42, R67, R72, R99, R100),
with the supply's return to OK told apart, and the statement. -/

namespace Sys2Proof.Machine

/-! ## The supply's return (R95, R134) -/

section Commit

variable (s : State) (new : ConfigSet) (n : ChannelNo)

theorem State.commit_trunk : (s.commit new).trunk = s.trunk := by
  unfold State.commit State.commitSupply
  dsimp only
  split <;> [exact State.changeSupply_trunk _ _; rfl]

/-- The commit brings the supply back to OK exactly where its record under the new limits qualifies. -/
theorem State.returns_iff :
    (s.supplyUnder new).Returns ↔ s.supply.state ≠ .ok ∧ (s.commit new).supply.state = .ok := by
  have state : (s.supplyUnder new).state = s.supply.state := by rw [State.supplyUnder, Supply.commit_eq]
  rw [s.commit_supply]
  constructor
  · intro returns
    exact ⟨state ▸ returns.1, by rw [if_pos returns]; rfl⟩
  · rintro ⟨out, ok⟩
    by_contra stays
    rw [if_neg stays, state] at ok
    exact out ok

/-- A channel as the commit leaves it before the supply's return. -/
abbrev State.carried : Channel :=
  commitChannel (s.commitCtx new) (s.commitZone new) n (s.record n) (new.channels.get n) (s.channels.get n)

theorem State.commit_channel_of_stays (stays : ¬ (s.supplyUnder new).Returns) :
    (s.commit new).channels.get n = s.carried new n := by
  unfold State.commit State.commitSupply
  dsimp only
  rw [if_neg stays, Table.get_mapIdx]

/-- The return to OK tests the HELD channels with the supply OK again. -/
theorem State.commit_channel_of_returns (returns : (s.supplyUnder new).Returns) :
    (s.commit new).channels.get n
      = (s.carried new n).supplyBack ⟨new, (s.commit new).weather, true, s.now⟩ (new.channels.get n) := by
  rw [s.commit_weather]
  unfold State.commit State.commitSupply
  dsimp only
  rw [if_pos returns, State.changeSupply]
  dsimp only
  rw [if_neg fun leaves => returns.1 leaves.1, if_pos ⟨returns.1, rfl⟩, State.mapChannels_get,
    State.raise_channels, State.setSupply_channels, Table.get_mapIdx]
  rfl

theorem Channel.supplyBack_binding (ctx : Ctx) (rec : ChannelRecord) (c : Channel) :
    (c.supplyBack ctx rec).binding = c.binding := by
  unfold Channel.supplyBack Channel.moveTest
  split
  · split <;> rfl
  · rfl

theorem State.commit_channel_binding :
    ((s.commit new).channels.get n).binding = (s.carried new n).binding := by
  by_cases returns : (s.supplyUnder new).Returns
  · rw [s.commit_channel_of_returns new n returns, Channel.supplyBack_binding]
  · rw [s.commit_channel_of_stays new n returns]

/-- The supply's return leaves every engine that is not HELD. -/
theorem State.commit_channel_engine
    (spared : ¬ ((s.supplyUnder new).Returns ∧ (s.carried new n).engine.state = .held)) :
    ((s.commit new).channels.get n).engine = (s.carried new n).engine := by
  by_cases returns : (s.supplyUnder new).Returns
  · rw [s.commit_channel_of_returns new n returns,
      Channel.supplyBack_of_not_held _ _ fun held => spared ⟨returns, held⟩]
  · rw [s.commit_channel_of_stays new n returns]

theorem State.commit_channel_engine_of_held (returns : (s.supplyUnder new).Returns)
    (held : (s.carried new n).engine.state = .held) {r : Result} (result : (s.carried new n).result = some r) :
    ((s.commit new).channels.get n).engine
      = (s.carried new n).engine.moveTest ⟨new, (s.commit new).weather, true, s.now⟩ (new.channels.get n)
          r.target := by
  rw [s.commit_channel_of_returns new n returns, Channel.supplyBack_of_held _ _ held result]

/-! ## A channel in use under the new set (R21, R42, R67, R72, R99, R100) -/

section Used

variable {s new n}

theorem State.carried_of_used (used : (new.channels.get n).inUse = true) :
    let r := new.channels.get n
    let stack := commitStack new (s.commitZone new) (s.commitCtx new).weather n (s.record n) r
      (s.channels.get n).stack
    let after := compose new (s.commitCtx new).weather r stack
    s.carried new n
      = ⟨stack, some after,
          commitEngine (s.commitCtx new) (s.record n) r (s.channels.get n).result after (s.channels.get n).engine,
          if bindingChanged (s.record n) r then Binding.none else (s.channels.get n).binding⟩ := by
  simp only [State.carried, commitChannel, used, if_true]

theorem State.commit_stack_of_used (used : (new.channels.get n).inUse = true) :
    ((s.commit new).channels.get n).stack
      = commitStack new (s.commit new).zone (s.commit new).weather n (s.record n) (new.channels.get n)
          (s.channels.get n).stack := by
  rw [(s.commit_channel new n).stack, s.commit_zone, s.commit_weather]
  exact congrArg Channel.stack (State.carried_of_used used)

theorem State.commit_result_of_used (used : (new.channels.get n).inUse = true) :
    ((s.commit new).channels.get n).result
      = some (compose new (s.commit new).weather (new.channels.get n) ((s.commit new).channels.get n).stack) := by
  have composed := s.commit_composed new n (by rwa [s.commit_record])
  rwa [s.commit_active, s.commit_record] at composed

/-- The C cell that a commit keeps (R67): that of a group which contains the channel still. -/
theorem keptComfort_of_group (groups : Table (BitVec 16) 64) (n : ChannelNo) (v : Nat) (g : GroupNo)
    (m : Option Mode) :
    keptComfort groups n (some ⟨v, .group g, m⟩)
      = if (groups.get g).getLsbD n.1 = true then some ⟨v, .group g, m⟩ else none := rfl

theorem keptComfort_of_other (groups : Table (BitVec 16) 64) (n : ChannelNo) {cell : Option Cell}
    (other : ∀ v g m, cell ≠ some ⟨v, .group g, m⟩) : keptComfort groups n cell = none := by
  unfold keptComfort
  split
  next v g m => exact absurd rfl (other v g m)
  next => rfl

theorem State.carried_engine_of_changed (changed : bindingChanged (s.record n) (new.channels.get n) = true) :
    (s.carried new n).engine = Engine.powerOn := by
  simp only [State.carried, commitChannel, commitEngine, changed, if_true]
  split <;> rfl

theorem State.carried_binding :
    (s.carried new n).binding
      = if bindingChanged (s.record n) (new.channels.get n) then Binding.none
        else (s.channels.get n).binding := by
  simp only [State.carried, commitChannel]
  split <;> rfl

theorem State.carried_engine_of_unbound
    (kept : ¬ bindingChanged (s.record n) (new.channels.get n) = true)
    (unbound : (s.channels.get n).engine.state.isBound = false) :
    (s.carried new n).engine = (s.channels.get n).engine := by
  simp only [State.carried, commitChannel, commitEngine, kept, unbound, Bool.false_eq_true, if_false]
  split <;> rfl

/-- The engine of a binding that survives goes across the commit under R99, between the result before and the
composition after. -/
theorem State.carried_engine_of_bound (used : (new.channels.get n).inUse = true)
    (kept : ¬ bindingChanged (s.record n) (new.channels.get n) = true)
    (isBound : (s.channels.get n).engine.state.isBound = true) :
    (s.carried new n).engine
      = (s.channels.get n).engine.commit
          ⟨new, (s.commit new).weather, decide (s.supply.state = .ok), s.now⟩ (s.record n) (new.channels.get n)
          (s.channels.get n).result
          (compose new (s.commit new).weather (new.channels.get n) ((s.commit new).channels.get n).stack) := by
  rw [State.commit_stack_of_used used, s.commit_zone, s.commit_weather, State.carried_of_used used]
  simp only [commitEngine, kept, isBound, if_true, Bool.false_eq_true, if_false]

/-- An engine that is not HELD before the supply's return is left by it. -/
theorem State.commit_engine_of_state {e : Engine} (carried : (s.carried new n).engine = e)
    (notHeld : e.state ≠ .held) : ((s.commit new).channels.get n).engine = e :=
  (s.commit_channel_engine new n fun h => notHeld (carried ▸ h.2)).trans carried

end Used

/-! ## Bindings that end and bindings that stay (R99, R100) -/

section Binding

variable {s new n}

theorem State.commit_of_changed (changed : bindingChanged (s.record n) (new.channels.get n) = true) :
    ((s.commit new).channels.get n).binding = Binding.none
      ∧ ((s.commit new).channels.get n).engine = Engine.powerOn := by
  refine ⟨?_, State.commit_engine_of_state (State.carried_engine_of_changed changed) nofun⟩
  rw [State.commit_channel_binding, State.carried_binding, if_pos changed]

theorem State.commit_binding_of_kept (kept : ¬ bindingChanged (s.record n) (new.channels.get n) = true) :
    ((s.commit new).channels.get n).binding = (s.channels.get n).binding := by
  rw [State.commit_channel_binding, State.carried_binding, if_neg kept]

theorem State.commit_engine_of_unbound (kept : ¬ bindingChanged (s.record n) (new.channels.get n) = true)
    (unbound : (s.channels.get n).engine.state.isBound = false) :
    ((s.commit new).channels.get n).engine = (s.channels.get n).engine := by
  refine State.commit_engine_of_state (State.carried_engine_of_unbound kept unbound) fun held => ?_
  rw [held] at unbound
  cases unbound

end Binding

/-- A channel that is not in use under the new set holds no cell and no result (R21). -/
theorem State.commit_unused (unused : (new.channels.get n).inUse = false) :
    ((s.commit new).channels.get n).stack = Stack.empty ∧ ((s.commit new).channels.get n).result = none := by
  rw [(s.commit_channel new n).stack, (s.commit_channel new n).result]
  simp [commitChannel, unused]

end Commit

/-! ## The statement -/

theorem State.hear_stack_m (s : State) (src : Nat) (n : ChannelNo) :
    ((s.hear src).channels.get n).stack.m = (s.channels.get n).stack.m := by
  rw [s.hear_channel, State.heardStack]
  split_ifs <;> rfl

theorem State.hear_stack_c (s : State) (src : Nat) (n : ChannelNo) :
    ((s.hear src).channels.get n).stack.c = (s.channels.get n).stack.c := by
  rw [s.hear_channel, State.heardStack]
  split_ifs <;> rfl

/-- Settles O26: the commit on the state that supervision has heard the frame in, which differs from the state
before in F cells and supervision alone. -/
theorem setCommitTakesUpStagedSet : Obligations.SetCommitTakesUpStagedSet := by
  intro rx a x s ⟨address, notLooped⟩ here opened own below valid t changed
  have store : (s.hear rx.src).store = s.store := s.hear_store rx.src
  have supply : (s.hear rx.src).supply = s.supply := s.hear_supply rx.src
  have now : (s.hear rx.src).now = s.now := s.hear_now rx.src
  have record (n : ChannelNo) : (s.hear rx.src).record n = s.record n := State.record_of_store _ _ _ store
  have engine (n : ChannelNo) : ((s.hear rx.src).channels.get n).engine = (s.channels.get n).engine := by
    rw [s.hear_channel]
  have binding (n : ChannelNo) : ((s.hear rx.src).channels.get n).binding = (s.channels.get n).binding := by
    rw [s.hear_channel]
  have result (n : ChannelNo) : ((s.hear rx.src).channels.get n).result = (s.channels.get n).result := by
    rw [s.hear_channel]
  have changed_iff (n : ChannelNo) :
      bindingChanged ((s.hear rx.src).record n) (x.set.channels.get n) = true ↔ changed n := by
    rw [record]
    exact bindingChanged_iff _ _
  have unbinds (n : ChannelNo) (h : changed n) : (t.channels.get n).binding = Binding.none
      ∧ (t.channels.get n).engine = Engine.powerOn := State.commit_of_changed ((changed_iff n).mpr h)
  have keeps (n : ChannelNo) (h : ¬ changed n) : (t.channels.get n).binding = (s.channels.get n).binding :=
    (State.commit_binding_of_kept (mt (changed_iff n).mp h)).trans (binding n)
  have stays (n : ChannelNo) (h : ¬ changed n)
      (idle : (s.channels.get n).engine.state = .unbound ∨ (s.channels.get n).engine.state = .lost) :
      (t.channels.get n).engine = (s.channels.get n).engine := by
    refine (State.commit_engine_of_unbound (mt (changed_iff n).mp h) ?_).trans (engine n)
    rw [engine]
    obtain state | state := idle <;> rw [state] <;> rfl
  refine ⟨?exec, ?store, (State.commit_trunk _ _).trans (s.hear_trunk rx.src), fun n used => ?used,
    fun n unused => ?unused⟩
  case exec =>
    have acts := actSetCommit_of_valid (s := s.hear rx.src) (src := rx.src) (store ▸ opened) own
      (store ▸ below) valid
    rw [store] at acts
    have received := s.receive_of_joins rx.port (setCommitFrame rx x.tally s.store.generation) _ a address
      notLooped here acts
    rw [State.settle_commit] at received
    exact congrArg Host.Outcome.next received
  case store => exact store ▸ State.commit_store _ x.set
  case unused =>
    obtain ⟨stack, noResult⟩ := State.commit_unused (s.hear rx.src) x.set n unused
    exact ⟨stack, noResult, unbinds n, fun h => ⟨keeps n h, fun state => stays n h (.inl state)⟩⟩
  case used =>
    intro r c d comfort
    have key : (if bindingChanged ((s.hear rx.src).record n) r then none
        else ((s.hear rx.src).channels.get n).stack.m) = if changed n then none else c.stack.m := by
      rw [s.hear_stack_m]
      exact if_congr (changed_iff n) rfl rfl
    have kept : (if ((s.hear rx.src).record n).inUse then
        keptComfort x.set.groups n ((s.hear rx.src).channels.get n).stack.c else none) = comfort := by
      rw [s.hear_stack_c, record]
      dsimp only [comfort, c]
      cases (s.record n).inUse
      · simp only [Bool.false_eq_true, false_and, if_false]
        split <;> rfl
      · simp only [true_and, if_true]
        split
        next v g m cell => rw [cell, keptComfort_of_group]
        next other => exact keptComfort_of_other _ _ other
    have stack : d.stack = ⟨smokeCell x.set t.zone.zones r, fallbackCell t.zone.supervision.lost r,
        weatherCell x.set.weather.policy t.weather r, if changed n then none else c.stack.m, comfort,
        some ⟨r.restPos, .rest, none⟩⟩ := by
      rw [← key, ← kept]
      exact State.commit_stack_of_used used
    refine ⟨stack, _, rfl, State.commit_result_of_used used, unbinds n, fun h => ⟨keeps n h, stays n h, ?_⟩⟩
    intro notUnbound notLost e returned
    have isBound : ((s.hear rx.src).channels.get n).engine.state.isBound = true := by
      rw [engine]
      exact (EngineState.isBound_iff _).mpr ⟨notUnbound, notLost⟩
    have carried : (State.carried (s.hear rx.src) x.set n).engine = e := by
      rw [State.carried_engine_of_bound used (mt (changed_iff n).mp h) isBound, engine, result, record,
        supply, now]
    have returned_iff : ((s.hear rx.src).supplyUnder x.set).Returns ↔ returned := by
      rw [State.returns_iff, supply]
    refine ⟨fun returns held => ?_, fun spared => ?_⟩
    · have composed : (State.carried (s.hear rx.src) x.set n).result
          = some (compose x.set t.weather r d.stack) :=
        ((s.hear rx.src).commit_channel x.set n).result.symm.trans (State.commit_result_of_used used)
      have tested := State.commit_channel_engine_of_held _ _ _ (returned_iff.mpr returns)
        (carried ▸ held) composed
      rwa [carried, now] at tested
    · rw [← carried]
      exact State.commit_channel_engine _ _ _ fun ⟨returns, held⟩ =>
        spared ⟨returned_iff.mp returns, carried ▸ held⟩

end Sys2Proof.Machine

/-! SUPPORT. The two laws of the trunk (R149, R158, R159), port by port: what each event on a port keeps of its law
and of the reply that carries a node reset, and what a node reset leaves. -/

namespace Sys2Proof.Machine

/-! ## Events on a port (R149, R158, R159) -/

section Ports

variable {x : Port}

theorem Port.startsAtOnce_iff :
    x.startsAtOnce = true ↔ x.flight = none ∧ x.gap = false ∧ x.urgent = [] ∧ x.normal = [] := by
  simp [Port.startsAtOnce, and_assoc]

theorem Port.startsAtOnce_eq_false_iff :
    x.startsAtOnce = false ↔ ¬ (x.flight = none ∧ x.gap = false ∧ x.urgent = [] ∧ x.normal = []) := by
  rw [← Port.startsAtOnce_iff, Bool.not_eq_true]

theorem Port.carriesReset_eq (x : Port) :
    x.carriesReset = (x.urgent.any (·.reset) || x.normal.any (·.reset) || x.flight.any (·.reset)) := rfl

/-- The law of a port whose link is UP and whose transmitter is not free: its queues keep their capacities. -/
theorem Port.law_of_busy (up : x.link = true) (busy : ¬ (x.flight = none ∧ x.gap = false))
    (urgent : x.urgent.length ≤ Config.urgentCapacity) (normal : x.normal.length ≤ Config.normalCapacity)
    (noGap : x.flight ≠ none → x.gap = false) : x.Law :=
  ⟨urgent, normal, fun down => absurd (up.symm.trans down) nofun,
    fun noFlight gap => absurd ⟨noFlight, gap⟩ busy, noGap⟩

/-- An entry joins a queue that has room, starts on a free transmitter, or leaves the port as it is. -/
theorem Port.Law.put (law : x.Law) (c : QueueClass) (e : Entry) : (x.put c e).1.Law := by
  obtain ⟨urgent, normal, down, free, noGap⟩ := id law
  have busy (waits : x.startsAtOnce = false) : ¬ (x.flight = none ∧ x.gap = false) := fun ⟨idle, quiet⟩ =>
    Port.startsAtOnce_eq_false_iff.mp waits ⟨idle, quiet, free idle quiet⟩
  obtain ⟨-, same⟩ | ⟨-, starts, taken⟩ | ⟨up, waits, -, room, taken⟩ | ⟨up, waits, -, room, taken⟩
    | ⟨-, -, same, -⟩ := Port.put_cases c e x
  · exact same ▸ law
  · obtain ⟨-, quiet, -, -⟩ := Port.startsAtOnce_iff.mp starts
    exact taken ▸ ⟨urgent, normal, down, nofun, fun _ => quiet⟩
  · rw [taken]
    exact Port.law_of_busy up (busy waits) (by simpa using room) normal noGap
  · rw [taken]
    exact Port.law_of_busy up (busy waits) urgent (by simpa using room) noGap
  · exact same ▸ law

/-- An entry taken carries the reset of its own mark; what was on the port before carries its own. -/
theorem Port.put_carriesReset_of_taken {c : QueueClass} {e : Entry} (taken : (x.put c e).2 = .taken) :
    (x.put c e).1.carriesReset = (x.carriesReset || e.reset) := by
  obtain ⟨-, put⟩ | ⟨-, starts, put⟩ | ⟨-, -, -, -, put⟩ | ⟨-, -, -, -, put⟩ | ⟨-, -, put, -⟩ :=
    Port.put_cases c e x <;> rw [put] at taken ⊢
  · exact absurd taken nofun
  · obtain ⟨idle, -, noUrgent, noNormal⟩ := Port.startsAtOnce_iff.mp starts
    simp [Port.carriesReset_eq, idle, noUrgent, noNormal]
  · simp [Port.carriesReset_eq, Bool.or_assoc, Bool.or_comm]
  · simp [Port.carriesReset_eq, Bool.or_assoc, Bool.or_comm, Bool.or_left_comm]
  · exact absurd taken nofun

/-- After an event on the port its law holds if it held before, and a reply that carries a reset is on it as
before. -/
structure Port.Keeps (x y : Port) : Prop where
  law : x.Law → y.Law
  carries : y.carriesReset = x.carriesReset

theorem Port.keeps_put (c : QueueClass) (e : Entry) (plain : e.reset = false) : x.Keeps (x.put c e).1 := by
  refine ⟨fun law => law.put c e, ?_⟩
  by_cases taken : (x.put c e).2 = .taken
  · rw [Port.put_carriesReset_of_taken taken, plain, Bool.or_false]
  · rw [Port.put_not_taken c e x taken]

theorem Port.keeps_linkUp : x.Keeps { x with link := true } :=
  ⟨fun ⟨urgent, normal, _, free, noGap⟩ => ⟨urgent, normal, nofun, free, noGap⟩, rfl⟩

theorem Port.Law.linkDown (law : x.Law) : { x.emptied with link := false }.Law := by
  obtain ⟨-, -, -, -, noGap⟩ := law
  exact ⟨Nat.zero_le _, Nat.zero_le _, fun _ => ⟨rfl, rfl⟩, fun _ _ => ⟨rfl, rfl⟩, noGap⟩

/-- A link going DOWN keeps the frame in flight (assumption 33), so that a reset is lost from the queues alone. -/
theorem Port.keeps_linkDown (plain : x.holdsReset = false) : x.Keeps { x.emptied with link := false } := by
  refine ⟨Port.Law.linkDown, ?_⟩
  rw [Port.carriesReset, Port.carriesReset, plain]
  rfl

theorem Port.Law.endTransmission (law : x.Law) : { x with flight := none, gap := true }.Law := by
  obtain ⟨urgent, normal, down, -, -⟩ := law
  exact ⟨urgent, normal, down, fun _ => nofun, fun none => absurd rfl none⟩

theorem Port.keeps_endTransmission {e : Entry} (inFlight : x.flight = some e) (plain : e.reset = false) :
    x.Keeps { x with flight := none, gap := true } := by
  refine ⟨Port.Law.endTransmission, ?_⟩
  simp [Port.carriesReset_eq, inFlight, plain]

/-- The head of a queue moves to the transmitter that the end of the gap has freed. -/
theorem Port.keeps_start (noFlight : x.flight = none) : x.Keeps x.start := by
  unfold Port.start
  split
  next e rest waits =>
    refine ⟨fun ⟨urgent, normal, down, _, _⟩ => ⟨?_, normal, ?_, nofun, fun _ => rfl⟩, ?_⟩
    · rw [waits, List.length_cons] at urgent
      exact Nat.le_of_succ_le urgent
    · exact fun isDown => absurd (waits.symm.trans (down isDown).1) nofun
    · simp [Port.carriesReset_eq, noFlight, waits, Bool.or_assoc, Bool.or_comm]
  next e rest noUrgent waits =>
    refine ⟨fun ⟨urgent, normal, down, _, _⟩ => ⟨urgent, ?_, ?_, nofun, fun _ => rfl⟩, ?_⟩
    · rw [waits, List.length_cons] at normal
      exact Nat.le_of_succ_le normal
    · exact fun isDown => absurd (waits.symm.trans (down isDown).2) nofun
    · simp [Port.carriesReset_eq, noFlight, noUrgent, waits, Bool.or_comm]
  next noUrgent noNormal =>
    exact ⟨fun ⟨urgent, normal, down, _, _⟩ => ⟨urgent, normal, down, fun _ _ => ⟨noUrgent, noNormal⟩,
      fun _ => rfl⟩, rfl⟩

theorem Port.Law.nodeReset (law : x.Law) : x.nodeReset.Law := by
  obtain ⟨-, -, -, -, noGap⟩ := law
  unfold Port.nodeReset
  split
  next noFlight =>
    exact ⟨Nat.zero_le _, Nat.zero_le _, fun _ => ⟨rfl, rfl⟩, fun _ _ => ⟨rfl, rfl⟩, noGap⟩
  next e inFlight =>
    have quiet : x.gap = false := noGap (inFlight ▸ nofun)
    split
    · exact ⟨Nat.zero_le _, Nat.zero_le _, fun _ => ⟨rfl, rfl⟩, fun _ => nofun, fun none => absurd rfl none⟩
    · exact ⟨Nat.zero_le _, Nat.zero_le _, fun _ => ⟨rfl, rfl⟩, nofun, fun _ => quiet⟩

/-- A node reset leaves no reply that carries one: the queues are emptied, and a frame that completes on a DOWN
link has lost its mark. -/
theorem Port.nodeReset_carriesReset (x : Port) : x.nodeReset.carriesReset = false := by
  unfold Port.nodeReset
  split
  next noFlight => simp [Port.carriesReset_eq, Port.emptied, noFlight]
  · split <;> rfl

end Ports

/-! ## Events on the trunk -/

/-- Each law of the trunk goes over, on its own. -/
structure State.KeepsPortLaws (s t : State) : Prop where
  ports : s.PortLaw → t.PortLaw
  reset : s.ResetLaw → t.ResetLaw

theorem State.portLaw_iff {s : State} : s.PortLaw ↔ ∀ p, (s.port p).Law :=
  ⟨fun ⟨up, down⟩ p => match p with | .up => up | .down => down, fun h => ⟨h .up, h .down⟩⟩

theorem State.resetLaw_iff {s : State} (p : TrunkPort) :
    s.ResetLaw
      ↔ s.trunk.pendingReset = ((s.port p).carriesReset || (s.port (otherPort p)).carriesReset) := by
  cases p
  · rfl
  · exact iff_of_eq (congrArg (s.trunk.pendingReset = ·) (Bool.or_comm _ _))

theorem State.KeepsPortLaws.trans {s t u : State} (h : s.KeepsPortLaws t) (k : t.KeepsPortLaws u) :
    s.KeepsPortLaws u :=
  ⟨fun law => k.ports (h.ports law), fun law => k.reset (h.reset law)⟩

theorem State.keepsPortLaws_of_trunk {s t : State} (same : t.trunk = s.trunk) : s.KeepsPortLaws t := by
  refine ⟨fun law => ?_, fun law => ?_⟩
  · rwa [State.PortLaw, same]
  · rwa [State.ResetLaw, same]

section Trunk

variable (s : State) (p : TrunkPort)

theorem State.PortLaw.setPort {s : State} (law : s.PortLaw) {x : Port} (h : x.Law) : (s.setPort p x).PortLaw := by
  cases p
  · exact ⟨h, law.2⟩
  · exact ⟨law.1, h⟩

theorem State.keepsPortLaws_setPort {x : Port} (h : (s.port p).Keeps x) : s.KeepsPortLaws (s.setPort p x) := by
  refine ⟨fun law => law.setPort p (h.law (State.portLaw_iff.mp law p)), fun law => ?_⟩
  rw [State.resetLaw_iff p] at law ⊢
  simpa [State.port, h.carries] using law

/-- Whatever was pending before, a node reset leaves none pending and no reply that carries one (R159). -/
theorem State.keepsPortLaws_nodeReset {t : State} (ports : s.PortLaw → t.PortLaw) :
    s.KeepsPortLaws t.nodeReset := by
  refine ⟨fun law => ⟨(ports law).1.nodeReset, (ports law).2.nodeReset⟩, fun _ => ?_⟩
  change false = (t.trunk.up.nodeReset.carriesReset || t.trunk.down.nodeReset.carriesReset)
  rw [Port.nodeReset_carriesReset, Port.nodeReset_carriesReset]
  rfl

/-- The reset becomes pending with the reply that carries it (R159). -/
theorem State.keepsPortLaws_carry {x : Port} (law : (s.port p).Law → x.Law) (carries : x.carriesReset = true) :
    s.KeepsPortLaws
      ((s.setPort p x).setTrunk { (s.setPort p x).trunk with pendingReset := true }) := by
  refine ⟨fun h => h.setPort p (law (State.portLaw_iff.mp h p)), fun _ => ?_⟩
  have tagged : ((s.setPort p x).port p).carriesReset = true := by
    rwa [State.port, State.setPort_trunk, Trunk.port_setPort_self]
  cases p
  · exact (Bool.or_eq_true_iff.mpr (.inl tagged)).symm
  · exact (Bool.or_eq_true_iff.mpr (.inr tagged)).symm

/-! ## Frames (R151 to R159) -/

variable (f : Frame)

theorem State.keepsPortLaws_forward : s.KeepsPortLaws (s.forward p f).1 := by
  have put := Port.keeps_put (x := s.port (otherPort p)) (queueClass s.node.classMap f.kind)
    ⟨{ f with hop := f.hop - 1 }, false⟩ rfl
  unfold State.forward
  split
  · exact State.keepsPortLaws_of_trunk rfl
  · dsimp only
    split
    next taken =>
      rw [taken] at put
      exact s.keepsPortLaws_setPort _ put
    · exact State.keepsPortLaws_of_trunk rfl
    · exact State.keepsPortLaws_of_trunk rfl

theorem State.keepsPortLaws_logOption (k : Option ErrorKind) : s.KeepsPortLaws (s.logOption k p f) :=
  State.keepsPortLaws_of_trunk (s.logOption_trunk k p f)

theorem State.keepsPortLaws_forwardOnly : s.KeepsPortLaws (s.forwardOnly p f) :=
  (s.keepsPortLaws_forward p f).trans (State.keepsPortLaws_logOption _ p f _)

/-- A reply on its way carries the reset where it makes it pending; discarded, it brings the reset about (R159). -/
theorem State.keepsPortLaws_reply (a : Nat) (status : Status) (body : List Byte) (reset : Bool) :
    s.KeepsPortLaws (s.reply p f a status body reset) := by
  have logged := s.keepsPortLaws_logOption p f (some .queueFull)
  unfold State.reply
  generalize replyFrame a f status body = frame
  cases carries : reset && !s.trunk.pendingReset
  · have put := Port.keeps_put (x := s.port p) .normal ⟨frame, false⟩ rfl
    simp only [if_neg Bool.false_ne_true]
    split
    next taken =>
      rw [taken] at put
      exact s.keepsPortLaws_setPort p put
    · exact logged
    · exact State.keepsPortLaws_of_trunk rfl
  · have law (h : (s.port p).Law) := h.put .normal ⟨frame, true⟩
    have tagged := Port.put_carriesReset_of_taken (x := s.port p) (c := .normal) (e := ⟨frame, true⟩)
    simp only [if_true]
    split
    next taken =>
      rw [taken] at law tagged
      exact s.keepsPortLaws_carry p law ((tagged rfl).trans (Bool.or_true _))
    · exact s.keepsPortLaws_nodeReset logged.ports
    · exact s.keepsPortLaws_nodeReset id

/-- After its owner acted, a broadcast changes no port but by its forwarding. -/
theorem State.keepsPortLaws_actAndForward (act : State → Acted) :
    (act s).state.KeepsPortLaws (s.actAndForward p f act) := by
  have forwarded := (act s).state.keepsPortLaws_forward p f
  unfold State.actAndForward
  dsimp only
  split
  · split <;> exact forwarded.trans (State.keepsPortLaws_of_trunk (by simp))
  · exact forwarded.trans (State.keepsPortLaws_of_trunk (by simp))
  · exact forwarded.trans (State.keepsPortLaws_of_trunk (by simp))

end Trunk

/-- Whatever state it finds, the owner leaves the trunk as it is: frames are sent by the Trunk Forwarder alone. -/
def Owner.LeavesTrunk (o : Owner) : Prop := ∀ s : State, (o.act s).state.trunk = s.trunk

theorem Owner.LeavesTrunk.run {o : Owner} (h : o.LeavesTrunk) (src : Nat) (s : State) :
    (o.run src s).state.trunk = s.trunk := by
  unfold Owner.run
  split
  · exact (h _).trans (s.hear_trunk src)
  · exact (h _).trans (s.supervise_trunk src)

theorem State.keepsPortLaws_receive (s : State) (p : TrunkPort) (f : Frame) (owner : Option Owner)
    (h : ∀ o ∈ owner, o.LeavesTrunk) : s.KeepsPortLaws (s.receive p f owner) := by
  have acted {o : Owner} (ho : owner = some o) : s.KeepsPortLaws (o.run f.src s).state :=
    State.keepsPortLaws_of_trunk ((h o ho).run f.src s)
  have heard : s.KeepsPortLaws (s.supervise f.src) := State.keepsPortLaws_of_trunk (s.supervise_trunk f.src)
  obtain ⟨-, repeater⟩ | ⟨-, loop⟩ | ⟨a, -, -, arrived⟩ := s.receive_cases p f owner
  · exact repeater ▸ s.keepsPortLaws_forwardOnly p f
  · exact loop ▸ s.keepsPortLaws_logOption p f (some .loop)
  · obtain ⟨-, o, ho, acts⟩ | ⟨-, -, acts⟩ | ⟨-, -, -, o, ho, acts⟩ | ⟨-, -, acts⟩ := arrived
    · exact acts ▸ ((acted ho).trans (State.keepsPortLaws_logOption _ p f _)).trans
        (State.keepsPortLaws_reply _ p f a _ _ _)
    · exact acts ▸ heard
    · exact acts ▸ (acted ho).trans (s.keepsPortLaws_actAndForward p f _)
    · exact acts ▸ heard.trans (State.keepsPortLaws_forwardOnly _ p f)

/-! ## Links, transmissions, node reset, power-on (R149, R150, R158, R159) -/

section Lines

variable (s : State) (p : TrunkPort)

theorem State.keepsPortLaws_endTransmission : s.KeepsPortLaws (s.endTransmission p) := by
  unfold State.endTransmission
  split
  · exact State.keepsPortLaws_of_trunk rfl
  next e inFlight =>
    dsimp only
    split
    · exact s.keepsPortLaws_nodeReset fun law => law.setPort p (State.portLaw_iff.mp law p).endTransmission
    next plain =>
      exact s.keepsPortLaws_setPort p (Port.keeps_endTransmission inFlight (Bool.not_eq_true _ ▸ plain))

theorem State.keepsPortLaws_powerOn (straps : Nat) (rate : LineRate) (contact : Level) :
    s.KeepsPortLaws (s.powerOn straps rate contact) :=
  ⟨fun _ => (by decide : Port.powerOn.Law ∧ Port.powerOn.Law), fun _ => rfl⟩

end Lines

/-! ## What leaves the trunk as it is -/

section LeavesTrunk

variable (s : State)

theorem actZoneAlarm_trunk (zone : Nat) (episode : Option Positions) :
    (actZoneAlarm zone episode s).state.trunk = s.trunk := by
  unfold actZoneAlarm
  split
  · rfl
  · split <;> rfl

theorem actZoneReset_trunk (zone : Nat) : (actZoneReset zone s).state.trunk = s.trunk := by
  unfold actZoneReset
  split
  · rfl
  · split <;> rfl

theorem actWeather_trunk (src speed direction rain : Nat) :
    (actWeather src speed direction rain s).state.trunk = s.trunk := by
  unfold actWeather
  split <;> rfl

theorem actGroupSet_trunk (group position mode : Nat) :
    (actGroupSet group position mode s).state.trunk = s.trunk := by
  unfold actGroupSet
  split <;> rfl

theorem actGroupRelease_trunk (group : Nat) : (actGroupRelease group s).state.trunk = s.trunk := by
  unfold actGroupRelease
  split <;> rfl

theorem actSetWrite_trunk (src table index : Nat) (record : List Byte) :
    (actSetWrite src table index record s).state.trunk = s.trunk := by
  unfold actSetWrite
  split
  · rfl
  · split
    · rfl
    · split
      · rfl
      · split
        · rfl
        · split <;> rfl

theorem actSetCommit_trunk (src tally generation : Nat) :
    (actSetCommit src tally generation s).state.trunk = s.trunk := by
  unfold actSetCommit
  split
  · rfl
  · split_ifs
    any_goals rfl
    split <;> [rfl; exact s.commit_trunk _]

theorem actCollect_trunk : (actCollect s).state.trunk = s.trunk := by
  unfold actCollect
  split <;> rfl

theorem actLampSet_trunk (channel value : Nat) : (actLampSet channel value s).state.trunk = s.trunk := by
  unfold actLampSet
  split <;> rfl

theorem actChannelClear_trunk (channel : Nat) : (actChannelClear channel s).state.trunk = s.trunk := by
  unfold actChannelClear
  split
  · rfl
  · split <;> rfl

theorem actSupplyClear_trunk : (actSupplyClear s).state.trunk = s.trunk := by
  unfold actSupplyClear
  split
  · dsimp only [Acted.ok]
    split <;> [rfl; exact s.changeSupply_trunk _]
  · rfl

theorem ownerOfRest_leavesTrunk (f : Frame) : ∀ o ∈ ownerOfRest f, o.LeavesTrunk := by
  unfold ownerOfRest
  split
  · exact nofun
  · rintro _ ⟨⟩ s
    rfl
  · exact nofun

theorem State.addStranger_trunk (x : Stranger) : (s.addStranger x).trunk = s.trunk := by
  unfold State.addStranger
  dsimp only
  split_ifs <;> rfl

theorem State.miss_trunk (n : ChannelNo) : (s.miss n).trunk = s.trunk := by
  unfold State.miss
  dsimp only
  split <;> rfl

theorem State.channelMiss_trunk (n : ChannelNo) : (s.channelMiss n).trunk = s.trunk := by
  unfold State.channelMiss
  split <;> [exact s.miss_trunk n; rfl]

theorem State.channelAnswer_trunk (n : ChannelNo) (a : Answer) (command : DriveCommand) :
    (s.channelAnswer n a command).trunk = s.trunk := by
  unfold State.channelAnswer
  dsimp only
  split
  · split_ifs
    · exact State.raiseOption_trunk _ _
    · exact s.miss_trunk n
    · exact (State.miss_trunk _ n).trans (s.addStranger_trunk _)
  · split <;> [rfl; exact s.addStranger_trunk _]

theorem State.goodAnswer_trunk (x : Exchange) (a : Answer) : (s.goodAnswer x a).trunk = s.trunk := by
  unfold State.goodAnswer
  split
  · exact s.channelAnswer_trunk _ a _
  · rfl
  · rfl
  · unfold State.discoveryAnswer
    split <;> [rfl; exact s.addStranger_trunk _]

theorem State.garbledAnswer_trunk (x : Exchange) : (s.garbledAnswer x).trunk = s.trunk := by
  unfold State.garbledAnswer
  dsimp only
  split
  · exact (State.channelMiss_trunk _ _).trans (s.logError_trunk _ _ _)
  · exact s.logError_trunk _ _ _

theorem State.noAnswer_trunk (x : Exchange) : (s.noAnswer x).trunk = s.trunk := by
  unfold State.noAnswer
  split <;> [exact s.channelMiss_trunk _; rfl; rfl; rfl]

theorem State.closeWindow_trunk : s.closeWindow.trunk = s.trunk := by
  unfold State.closeWindow
  split <;> [rfl; exact State.noAnswer_trunk _ _]

theorem State.acceptContact_trunk : s.acceptContact.trunk = s.trunk := by
  unfold State.acceptContact
  dsimp only
  split <;> rfl

end LeavesTrunk

/-! ## Commands -/

/-- Whatever next state the command answers, the laws of the trunk go over to it. -/
def State.OutcomeKeepsPorts (s : State) (o : Host.Outcome State Fault Refusal) : Prop :=
  ∀ t, o = .next t → s.KeepsPortLaws t

theorem State.KeepsPortLaws.next {s t : State} (h : s.KeepsPortLaws t) : s.OutcomeKeepsPorts (.next t) :=
  fun _ same => Host.Outcome.next.inj same ▸ h

theorem State.outcomeKeepsPorts_of_trunk {s t : State} (same : t.trunk = s.trunk) :
    s.OutcomeKeepsPorts (.next t) :=
  (State.keepsPortLaws_of_trunk same).next

/-- An event that has not come about changes nothing. -/
theorem State.outcomeKeepsPorts_whenDue {s t : State} (c : Prop) [Decidable c] (h : c → s.KeepsPortLaws t) :
    s.OutcomeKeepsPorts (if c then .next t else .next s) := by
  split <;> [exact (h ‹c›).next; exact State.outcomeKeepsPorts_of_trunk rfl]

theorem execFrame_keepsPorts (c : Instr) (s : State) : s.OutcomeKeepsPorts (execFrame c s) := by
  have received {demand : Bool} {act : State → Acted} (h : ∀ t, (act t).state.trunk = t.trunk)
      (p : TrunkPort) (f : Frame) : s.OutcomeKeepsPorts (.next (s.receive p f (some ⟨demand, act⟩))) :=
    (s.keepsPortLaws_receive p f (some ⟨demand, act⟩) fun _ same => Option.some.inj same ▸ h).next
  cases c
  case unknownKind => exact received (fun _ => rfl) _ _
  case zoneAlarm => exact received (actZoneAlarm_trunk · _ _) _ _
  case zoneReset => exact received (actZoneReset_trunk · _) _ _
  case weather => exact received (actWeather_trunk · _ _ _ _) _ _
  case groupSet => exact received (actGroupSet_trunk · _ _ _) _ _
  case groupRelease => exact received (actGroupRelease_trunk · _) _ _
  case setWrite => exact received (actSetWrite_trunk · _ _ _ _) _ _
  case setCommit => exact received (actSetCommit_trunk · _ _ _) _ _
  case setDiscard => exact received (fun _ => rfl) _ _
  case read => exact received (fun t => congrArg State.trunk (actRead_state _ _ _ t)) _ _
  case query => exact received (fun t => congrArg State.trunk (actQuery_state _ _ t)) _ _
  case collect => exact received actCollect_trunk _ _
  case lampSet => exact received (actLampSet_trunk · _ _) _ _
  case channelClear => exact received (actChannelClear_trunk · _) _ _
  case errorClear => exact received (fun _ => rfl) _ _
  case supplyClear => exact received actSupplyClear_trunk _ _
  case nodeReset => exact received (fun _ => rfl) _ _
  all_goals exact State.outcomeKeepsPorts_of_trunk rfl

theorem execFrameReception_keepsPorts (p : TrunkPort) (period : Nat) (chars : List Byte) (s : State) :
    s.OutcomeKeepsPorts (execFrameReception p period chars s) := by
  unfold execFrameReception
  split
  · exact State.outcomeKeepsPorts_of_trunk rfl
  · split
    · exact State.outcomeKeepsPorts_of_trunk (s.logError_trunk _ _ _)
    · exact State.outcomeKeepsPorts_of_trunk (s.logError_trunk _ _ _)
    · split
      · exact execFrame_keepsPorts _ s
      · exact (s.keepsPortLaws_receive p _ _ (ownerOfRest_leavesTrunk _)).next

theorem execLinkDown_keepsPorts (p : TrunkPort) (s : State) : s.OutcomeKeepsPorts (execLinkDown p s) := by
  unfold execLinkDown
  dsimp only
  split
  · exact (s.keepsPortLaws_nodeReset fun law => law.setPort p (State.portLaw_iff.mp law p).linkDown).next
  next plain => exact (s.keepsPortLaws_setPort p (Port.keeps_linkDown (Bool.not_eq_true _ ▸ plain))).next

theorem execNodeResetTakesEffect_keepsPorts (s : State) :
    s.OutcomeKeepsPorts (execNodeResetTakesEffect s) := by
  unfold execNodeResetTakesEffect
  split
  · exact (s.keepsPortLaws_endTransmission .up).next
  · exact State.outcomeKeepsPorts_whenDue _ fun _ => s.keepsPortLaws_endTransmission .down

theorem execSlotStart_trunk (s : State) : ∀ t, execSlotStart s = .next t → t.trunk = s.trunk := by
  unfold execSlotStart
  split
  · rintro _ ⟨⟩
    rfl
  · split <;> rintro _ ⟨⟩ <;> [exact s.closeWindow_trunk; rfl]
  · split <;> rintro _ ⟨⟩ <;> [exact s.closeWindow_trunk; rfl]

theorem execBranchReception_trunk (chars : List Byte) (s : State) :
    ∀ t, execBranchReception chars s = .next t → t.trunk = s.trunk := by
  unfold execBranchReception
  split
  · rintro _ ⟨⟩
    rfl
  · split
    · split <;> rintro _ ⟨⟩
      · exact s.endExchange.goodAnswer_trunk _ _
      · exact s.endExchange.garbledAnswer_trunk _
    · rintro _ ⟨⟩
      rfl

theorem execAnswerWindowClose_trunk (s : State) :
    ∀ t, execAnswerWindowClose s = .next t → t.trunk = s.trunk := by
  unfold execAnswerWindowClose
  split
  · rintro _ ⟨⟩
    rfl
  · split <;> rintro _ ⟨⟩ <;> [exact s.closeWindow_trunk; rfl]

theorem execSupplySample_trunk (reading : Nat) (s : State) :
    ∀ t, execSupplySample reading s = .next t → t.trunk = s.trunk := by
  unfold execSupplySample
  split
  · dsimp only
    split <;> rintro _ ⟨⟩ <;> [rfl; exact s.changeSupply_trunk _]
  · rintro _ ⟨⟩
    rfl

/-- The frame commands send frames, the links, transmissions and resets change the ports, and no other command
touches the trunk. -/
theorem exec_keepsPorts (c : Instr) (s : State) : s.OutcomeKeepsPorts (exec c s) := by
  have frame := execFrame_keepsPorts c s
  have kept {t : State} (q : Prop) [Decidable q] (same : t.trunk = s.trunk) :
      s.OutcomeKeepsPorts (if q then .next t else .next s) :=
    State.outcomeKeepsPorts_whenDue q fun _ => State.keepsPortLaws_of_trunk same
  cases c
  case powerOn => exact (s.keepsPortLaws_powerOn _ _ _).next
  case linkDown p => exact execLinkDown_keepsPorts p s
  case linkUp p => exact (s.keepsPortLaws_setPort p Port.keeps_linkUp).next
  case frameReception p period chars => exact execFrameReception_keepsPorts p period chars s
  case nodeResetTakesEffect => exact execNodeResetTakesEffect_keepsPorts s
  case transmissionEnd p => exact (s.keepsPortLaws_endTransmission p).next
  case transmissionStart p =>
    exact State.outcomeKeepsPorts_whenDue _ fun noFlight =>
      s.keepsPortLaws_setPort p (Port.keeps_start (Option.isNone_iff_eq_none.mp noFlight))
  case contactInputChange => exact State.outcomeKeepsPorts_of_trunk rfl
  case pendingChangeAccepted => exact kept _ s.acceptContact_trunk
  case panelTimeout => exact kept _ rfl
  case rainHoldExpiry => exact kept _ rfl
  case stormHoldExpiry => exact kept _ rfl
  case stationTimeout => exact kept _ rfl
  case dwellExpiry => exact kept _ rfl
  case retryExpiry => exact kept _ rfl
  case supplySample reading =>
    exact fun t ran => State.keepsPortLaws_of_trunk (execSupplySample_trunk reading s t ran)
  case slotStart => exact fun t ran => State.keepsPortLaws_of_trunk (execSlotStart_trunk s t ran)
  case branchReception chars =>
    exact fun t ran => State.keepsPortLaws_of_trunk (execBranchReception_trunk chars s t ran)
  case answerWindowClose => exact fun t ran => State.keepsPortLaws_of_trunk (execAnswerWindowClose_trunk s t ran)
  all_goals exact frame

/-- Settles O53, by the step lemma: every command keeps each of the two laws. -/
theorem stepKeepsPortLaws : Obligations.StepKeepsPortLaws := by
  intro s t ran
  have keeps : s.KeepsPortLaws t := by
    unfold step at ran
    split at ran
    · cases ran
      exact State.keepsPortLaws_of_trunk rfl
    next c rest _ =>
      exact (State.keepsPortLaws_of_trunk rfl : s.KeepsPortLaws (s.setPending rest)).trans
        (exec_keepsPorts c _ t ran)
  exact ⟨keeps.ports, keeps.reset⟩

end Sys2Proof.Machine

/-! SUPPORT. Trunk frames as characters and back (R151, R153, R160, section 9.6): the frame check bit by bit, the
form check of a frame's characters, and the command that a frame spells. -/

namespace Sys2Proof.Machine

/-! ## The frame check (R160) -/

/-- One bit `m` of a character through the generator x^16 + x^12 + x^5 + 1. -/
def crcStep (m : Bool) (r : BitVec 16) : BitVec 16 :=
  (r <<< 1) ^^^ (if r.getLsbD 15 = m then 0#16 else 0x1021#16)

/-- A register with a word added goes on as the register alone that takes the word's top bit, and the word's other
bits stay added. -/
theorem crcBit_xor (r w : BitVec 16) : crcBit (r ^^^ w) = crcStep w.msb r ^^^ (w <<< 1) := by
  have out : r.getLsbD 15 = r.msb := r.msb_eq_getLsbD_last.symm
  unfold crcBit crcStep
  rw [BitVec.msb_xor, BitVec.shiftLeft_xor_distrib, out]
  cases r.msb <;> cases w.msb <;> simp [BitVec.xor_assoc, BitVec.xor_comm (w <<< 1)]

/-- A character is added at the top of the register; after eight bits nothing of it is left there. -/
theorem crcByte_eq (r : BitVec 16) (b : Byte) :
    crcByte r b = [7, 6, 5, 4, 3, 2, 1, 0].foldl (fun r k => crcStep (b.getLsbD k) r) r := by
  have gone : b.setWidth 16 <<< 16 = 0#16 := BitVec.shiftLeft_eq_zero le_rfl
  simp only [crcByte, crcBit_xor, ← BitVec.shiftLeft_add, Nat.reduceAdd, gone, BitVec.xor_zero, List.foldl]
  simp [BitVec.msb_eq_getLsbD_last]

theorem crc_append_singleton (chars : List Byte) (b : Byte) :
    crc (chars ++ [b]) = [7, 6, 5, 4, 3, 2, 1, 0].foldl (fun r k => crcStep (b.getLsbD k) r) (crc chars) := by
  rw [crc, List.foldl_append]
  exact crcByte_eq _ b

theorem crcBytes_eq (chars : List Byte) :
    crcBytes chars = [(crc chars).extractLsb' 8 8, (crc chars).extractLsb' 0 8] := by
  have high : byte ((crc chars).toNat / 256) = (crc chars).extractLsb' 8 8 :=
    BitVec.eq_of_toNat_eq (by simp [toNat_byte, BitVec.extractLsb'_toNat, Nat.shiftRight_eq_div_pow])
  have low : byte (crc chars).toNat = (crc chars).extractLsb' 0 8 :=
    BitVec.eq_of_toNat_eq (by simp [toNat_byte, BitVec.extractLsb'_toNat])
  rw [crcBytes, be16, high, low]

theorem crcGood_append_pair (body : List Byte) (high low : Byte) :
    crcGood (body ++ [high, low]) = true ↔ [high, low] = crcBytes body := by
  have two : (body ++ [high, low]).length - 2 = body.length := by simp
  rw [crcGood, two, List.drop_left, List.take_left, beq_iff_eq]

/-! ## The receive checks on a frame's characters (R151) -/

theorem Frame.chars_length (f : Frame) : f.chars.length = f.payload.length + 8 := by
  simp [Frame.chars, Frame.body, RawHeader.bytes, crcBytes, be16]

/-- A reception of eight characters or more with a good check is judged by its header (R151 check 2). -/
theorem judgeReception_of_good (kind dst src hop seq len : Byte) (rest : List Byte)
    (long : 8 ≤ ([kind, dst, src, hop, seq, len] ++ rest).length)
    (good : crcGood ([kind, dst, src, hop, seq, len] ++ rest) = true) :
    judgeReception ([kind, dst, src, hop, seq, len] ++ rest)
      = if (RawHeader.mk kind dst src hop seq len).inForm ([kind, dst, src, hop, seq, len] ++ rest).length then
          .frame ⟨kind, dst.toNat, src.toNat, hop.toNat, seq.toNat, rest.take len.toNat⟩
        else .malformed ⟨kind, dst, src, hop, seq, len⟩ := by
  unfold judgeReception
  rw [if_neg fun bad => bad.elim (Nat.not_lt_of_le long) fun bad => absurd (good.symm.trans bad) nofun]
  rfl

theorem RawHeader.inForm_iff (h : RawHeader) (length : Nat) :
    h.inForm length = true
      ↔ h.dst.toNat ≤ 62 ∧ 1 ≤ h.src.toNat ∧ h.src.toNat ≤ 62 ∧ h.hop.toNat ≤ 31 ∧ h.len.toNat ≤ 48
          ∧ h.len.toNat + 8 = length := by
  simp [RawHeader.inForm, and_assoc]

/-- The characters of a frame in form are judged as that frame, with no field lost. -/
theorem Frame.InForm.judge {f : Frame} (h : f.InForm) : judgeReception f.chars = .frame f := by
  have length := f.chars_length
  have spelled : f.chars = [f.kind, byte f.dst, byte f.src, byte f.hop, byte f.seq, byte f.payload.length]
      ++ (f.payload ++ crcBytes f.body) := rfl
  have good : crcGood f.chars = true := crcGood_append_crcBytes f.body
  obtain ⟨dst, src, srcMax, hop, seq, payload⟩ := h
  have fields : f.dst % 256 = f.dst ∧ f.src % 256 = f.src ∧ f.hop % 256 = f.hop ∧ f.seq % 256 = f.seq
      ∧ f.payload.length % 256 = f.payload.length := by omega
  obtain ⟨dstByte, srcByte, hopByte, seqByte, lenByte⟩ := fields
  rw [spelled] at good length ⊢
  rw [judgeReception_of_good _ _ _ _ _ _ _ (by omega) good, if_pos]
  · simp only [toNat_byte, dstByte, srcByte, hopByte, seqByte, lenByte, List.take_left]
  · rw [RawHeader.inForm_iff]
    simp only [toNat_byte, dstByte, srcByte, hopByte, lenByte]
    omega

/-- The frame of a well-formed command is in form. -/
theorem Frame.inForm_of_frameOf {c : Instr} (wf : c.wellFormed = true) {p : TrunkPort} {f : Frame}
    (frame : frameOf c = some (p, f)) : f.InForm := by
  cases c
  case unknownKind => exact Laws.FrameInForm.unknownKind _ _ _ wf p f frame
  case zoneAlarm => exact Laws.FrameInForm.zoneAlarm _ _ _ wf p f frame
  case zoneReset => exact Laws.FrameInForm.zoneReset _ _ wf p f frame
  case weather => exact Laws.FrameInForm.weather _ _ _ _ wf p f frame
  case groupSet => exact Laws.FrameInForm.groupSet _ _ _ _ wf p f frame
  case groupRelease => exact Laws.FrameInForm.groupRelease _ _ wf p f frame
  case setWrite => exact Laws.FrameInForm.setWrite _ _ _ _ wf p f frame
  case setCommit => exact Laws.FrameInForm.setCommit _ _ _ wf p f frame
  case setDiscard => exact Laws.FrameInForm.setDiscard _ wf p f frame
  case read => exact Laws.FrameInForm.read _ _ _ _ wf p f frame
  case query => exact Laws.FrameInForm.query _ _ _ wf p f frame
  case collect => exact Laws.FrameInForm.collect _ wf p f frame
  case lampSet => exact Laws.FrameInForm.lampSet _ _ _ wf p f frame
  case channelClear => exact Laws.FrameInForm.channelClear _ _ wf p f frame
  case errorClear => exact Laws.FrameInForm.errorClear _ wf p f frame
  case supplyClear => exact Laws.FrameInForm.supplyClear _ wf p f frame
  case nodeReset => exact Laws.FrameInForm.nodeReset _ wf p f frame
  -- The other commands are no frames.
  all_goals cases frame

/-! ## The command a frame spells (section 9.6) -/

theorem kindOf_code (k : FrameKind) : kindOf k.code = some k := by cases k <;> rfl

theorem code_of_kindOf {code : Byte} {k : FrameKind} (h : kindOf code = some k) : code = k.code := by
  have found := List.find?_some h
  exact (beq_iff_eq.mp found).symm

/-- The two lists of section 9.6's kind codes agree. -/
theorem kindOf_eq_none {code : Byte} (h : knownKindCodes.contains code.toNat = false) : kindOf code = none := by
  rw [kindOf, List.find?_eq_none]
  intro k _ same
  rw [← beq_iff_eq.mp same] at h
  cases k <;> exact absurd h (by decide)

theorem toNat_byte_of_isByte {n : Nat} (h : isByte n = true) : (byte n).toNat = n :=
  (toNat_byte n).trans (Nat.mod_eq_of_lt (of_decide_eq_true h))

theorem val16_of_isWord {n : Nat} (h : isWord n = true) : val16 (byte (n / 256)) (byte n) = n :=
  (val16_byte n).trans (Nat.mod_eq_of_lt (of_decide_eq_true h))

theorem val32_byte {n : Nat} (h : n < 4294967296) :
    val32 (byte (n / 65536 / 256)) (byte (n / 65536)) (byte (n / 256)) (byte n) = n := by
  simp only [val32, val16_byte]
  omega

theorem be32_val32 (a b c d : Byte) : be32 (val32 a b c d) = [a, b, c, d] := by
  have low : val16 c d < 65536 := by unfold val16; omega
  have high : val32 a b c d / 65536 = val16 a b := by unfold val32; omega
  rw [be32, high, be16_val16, val32, be16_add_mul, be16_val16]
  rfl

/-- Read back, the frame of a well-formed command whose payload length is allowed spells that command. -/
theorem commandOf_of_frameOf {c : Instr} {p : TrunkPort} {f : Frame} (wf : c.wellFormed = true)
    (h : frameOf c = some (p, f))
    (allowed : ∀ k, kindOf f.kind = some k → lengthAllowed k f.payload = true) : commandOf p f = some c := by
  cases c <;> cases h <;> simp only [Instr.wellFormed, Bool.and_eq_true, decide_eq_true_eq] at wf
  case unknownKind rx kind payload =>
    obtain ⟨⟨-, unknown⟩, -⟩ := wf
    simp [commandOf, unknownKindFrame, kindOf_eq_none ((Bool.not_eq_true' _).mp unknown)]
  case zoneAlarm rx zone episode =>
    obtain ⟨⟨-, zoneByte⟩, words⟩ := wf
    cases episode with
    | none =>
      change some (Instr.zoneAlarm rx (byte zone).toNat none) = _
      rw [toNat_byte_of_isByte zoneByte]
    | some positions =>
      obtain ⟨exhaust, inlet⟩ := Bool.and_eq_true_iff.mp words
      change some (Instr.zoneAlarm rx (byte zone).toNat (some ⟨val16 _ _, val16 _ _⟩)) = _
      rw [toNat_byte_of_isByte zoneByte, val16_of_isWord exhaust, val16_of_isWord inlet]
  case zoneReset rx zone =>
    change some (Instr.zoneReset rx (byte zone).toNat) = _
    rw [toNat_byte_of_isByte wf.2]
  case weather rx speed direction rain =>
    obtain ⟨⟨⟨-, speedWord⟩, directionByte⟩, rainByte⟩ := wf
    change some (Instr.weather rx (val16 _ _) (byte direction).toNat (byte rain).toNat) = _
    rw [val16_of_isWord speedWord, toNat_byte_of_isByte directionByte, toNat_byte_of_isByte rainByte]
  case groupSet rx group position mode =>
    obtain ⟨⟨⟨-, groupByte⟩, positionWord⟩, modeByte⟩ := wf
    change some (Instr.groupSet rx (byte group).toNat (val16 _ _) (byte mode).toNat) = _
    rw [toNat_byte_of_isByte groupByte, val16_of_isWord positionWord, toNat_byte_of_isByte modeByte]
  case groupRelease rx group =>
    change some (Instr.groupRelease rx (byte group).toNat) = _
    rw [toNat_byte_of_isByte wf.2]
  case setWrite rx table index record =>
    obtain ⟨⟨⟨-, tableByte⟩, indexByte⟩, -⟩ := wf
    change (if lengthAllowed .setWrite (byte table :: byte index :: record) = true then
      some (Instr.setWrite rx (byte table).toNat (byte index).toNat record) else none) = _
    have length : lengthAllowed .setWrite (byte table :: byte index :: record) = true := allowed .setWrite rfl
    rw [if_pos length, toNat_byte_of_isByte tableByte, toNat_byte_of_isByte indexByte]
  case setCommit rx tally generation =>
    obtain ⟨⟨-, tallyWord⟩, long⟩ := wf
    change some (Instr.setCommit rx (val16 _ _) (val32 _ _ _ _)) = _
    rw [val16_of_isWord tallyWord, val32_byte long]
  case read rx table index copy =>
    obtain ⟨⟨⟨-, tableByte⟩, indexByte⟩, copyByte⟩ := wf
    change some (Instr.read rx (byte table).toNat (byte index).toNat (byte copy).toNat) = _
    rw [toNat_byte_of_isByte tableByte, toNat_byte_of_isByte indexByte, toNat_byte_of_isByte copyByte]
  case query rx subject index =>
    obtain ⟨⟨-, subjectByte⟩, indexByte⟩ := wf
    change some (Instr.query rx (byte subject).toNat (byte index).toNat) = _
    rw [toNat_byte_of_isByte subjectByte, toNat_byte_of_isByte indexByte]
  case lampSet rx channel value =>
    obtain ⟨⟨-, channelByte⟩, valueByte⟩ := wf
    change some (Instr.lampSet rx (byte channel).toNat (byte value).toNat) = _
    rw [toNat_byte_of_isByte channelByte, toNat_byte_of_isByte valueByte]
  case channelClear rx channel =>
    change some (Instr.channelClear rx (byte channel).toNat) = _
    rw [toNat_byte_of_isByte wf.2]
  -- The kinds without a payload.
  all_goals rfl

/-- A payload of a length allowed for its kind, if it is no REPLY's, is that of a command, and is read as that
command. -/
theorem exists_commandOf_of_allowed (rx : Rx) {k : FrameKind} {payload : List Byte} (notReply : k ≠ .reply)
    (allowed : lengthAllowed k payload = true) :
    ∃ c, frameOf c = some (rx.port, frameUnder rx k payload)
      ∧ commandOf rx.port (frameUnder rx k payload) = some c := by
  have one (h : (payload.length == 1) = true) := List.length_eq_one_iff.mp (beq_iff_eq.mp h)
  have two (h : (payload.length == 2) = true) := List.length_eq_two.mp (beq_iff_eq.mp h)
  have four (h : (payload.length == 4) = true) := List.length_eq_four.mp (beq_iff_eq.mp h)
  have zero (h : (payload.length == 0) = true) := List.length_eq_zero_iff.mp (beq_iff_eq.mp h)
  cases k
  case reply => exact absurd rfl notReply
  case zoneAlarm =>
    obtain short | long := Bool.or_eq_true_iff.mp allowed
    · obtain ⟨z, rfl⟩ := one short
      exact ⟨.zoneAlarm rx z.toNat none, by rw [frameOf, zoneAlarmFrame, byte_toNat], rfl⟩
    · obtain ⟨z, rest, rfl, rest4⟩ := List.length_eq_succ_iff.mp (beq_iff_eq.mp long)
      obtain ⟨a, b, c, d, rfl⟩ := List.length_eq_four.mp rest4
      refine ⟨.zoneAlarm rx z.toNat (some ⟨val16 a b, val16 c d⟩), ?_, rfl⟩
      rw [frameOf, zoneAlarmFrame, byte_toNat, be16_val16, be16_val16]
      rfl
  case zoneReset =>
    obtain ⟨z, rfl⟩ := one allowed
    exact ⟨.zoneReset rx z.toNat, by rw [frameOf, zoneResetFrame, byte_toNat], rfl⟩
  case weather =>
    obtain ⟨a, b, c, d, rfl⟩ := four allowed
    refine ⟨.weather rx (val16 a b) c.toNat d.toNat, ?_, rfl⟩
    rw [frameOf, weatherFrame, be16_val16, byte_toNat, byte_toNat]
    rfl
  case groupSet =>
    obtain ⟨g, a, b, m, rfl⟩ := four allowed
    refine ⟨.groupSet rx g.toNat (val16 a b) m.toNat, ?_, rfl⟩
    rw [frameOf, groupSetFrame, be16_val16, byte_toNat, byte_toNat]
    rfl
  case groupRelease =>
    obtain ⟨g, rfl⟩ := one allowed
    exact ⟨.groupRelease rx g.toNat, by rw [frameOf, groupReleaseFrame, byte_toNat], rfl⟩
  case setWrite =>
    match payload, allowed with
    | t :: i :: record, allowed =>
      exact ⟨.setWrite rx t.toNat i.toNat record, by rw [frameOf, setWriteFrame, byte_toNat, byte_toNat],
        if_pos allowed⟩
  case setCommit =>
    obtain ⟨a, rest, rfl, rest5⟩ := List.length_eq_succ_iff.mp (beq_iff_eq.mp allowed)
    obtain ⟨b, rest, rfl, rest4⟩ := List.length_eq_succ_iff.mp rest5
    obtain ⟨c, d, e, g, rfl⟩ := List.length_eq_four.mp rest4
    refine ⟨.setCommit rx (val16 a b) (val32 c d e g), ?_, rfl⟩
    rw [frameOf, setCommitFrame, be16_val16, be32_val32]
    rfl
  case read =>
    obtain ⟨t, i, c, rfl⟩ := List.length_eq_three.mp (beq_iff_eq.mp allowed)
    refine ⟨.read rx t.toNat i.toNat c.toNat, ?_, rfl⟩
    rw [frameOf, readFrame, byte_toNat, byte_toNat, byte_toNat]
  case query =>
    obtain ⟨x, i, rfl⟩ := two allowed
    exact ⟨.query rx x.toNat i.toNat, by rw [frameOf, queryFrame, byte_toNat, byte_toNat], rfl⟩
  case lampSet =>
    obtain ⟨c, v, rfl⟩ := two allowed
    exact ⟨.lampSet rx c.toNat v.toNat, by rw [frameOf, lampSetFrame, byte_toNat, byte_toNat], rfl⟩
  case channelClear =>
    obtain ⟨c, rfl⟩ := one allowed
    exact ⟨.channelClear rx c.toNat, by rw [frameOf, channelClearFrame, byte_toNat], rfl⟩
  all_goals obtain rfl := zero allowed
  case setDiscard => exact ⟨.setDiscard rx, rfl, rfl⟩
  case collect => exact ⟨.collect rx, rfl, rfl⟩
  case errorClear => exact ⟨.errorClear rx, rfl, rfl⟩
  case supplyClear => exact ⟨.supplyClear rx, rfl, rfl⟩
  case nodeReset => exact ⟨.nodeReset rx, rfl, rfl⟩

/-- A frame of an unknown kind spells UNKNOWN_KIND. -/
theorem commandOf_of_unknownKind {p : TrunkPort} {f : Frame} (kind : kindOf f.kind = none) :
    commandOf p f = some (.unknownKind ⟨p, f.dst, f.src, f.hop, f.seq⟩ f.kind f.payload) := by
  unfold commandOf
  rw [kind]

/-- A payload of a length its kind does not allow spells no command, nor does a REPLY. -/
theorem commandOf_of_badLength {p : TrunkPort} {f : Frame} {k : FrameKind} (kind : kindOf f.kind = some k)
    (bad : lengthAllowed k f.payload = false) : commandOf p f = none := by
  unfold commandOf
  rw [kind]
  exact if_neg (ne_true_of_eq_false bad)

theorem commandOf_of_reply {p : TrunkPort} {f : Frame} (kind : kindOf f.kind = some .reply) :
    commandOf p f = none := by
  unfold commandOf
  rw [kind]
  exact ite_self none

/-- The command a frame spells is that of the frame, received on its port. -/
theorem frameOf_of_commandOf {c : Instr} {p : TrunkPort} {f : Frame} (h : commandOf p f = some c) :
    frameOf c = some (p, f) := by
  cases kind : kindOf f.kind with
  | none =>
    obtain rfl := Option.some.inj ((commandOf_of_unknownKind kind).symm.trans h)
    rfl
  | some k =>
    have notReply : k ≠ .reply := by
      rintro rfl
      exact absurd ((commandOf_of_reply kind).symm.trans h) nofun
    have allowed : lengthAllowed k f.payload = true := by
      by_contra bad
      exact absurd ((commandOf_of_badLength kind (Bool.not_eq_true _ ▸ bad)).symm.trans h) nofun
    obtain ⟨d, frame, read⟩ := exists_commandOf_of_allowed ⟨p, f.dst, f.src, f.hop, f.seq⟩ notReply allowed
    rw [frameUnder, ← code_of_kindOf kind] at frame read
    obtain rfl := Option.some.inj (read.symm.trans h)
    exact frame

/-- Settles O3: the check bit by bit, the judgement of a frame in form, and the command read back. -/
theorem frameCharactersSpellCommand : Obligations.FrameCharactersSpellCommand := by
  refine ⟨rfl, crc_append_singleton, crcBytes_eq, crcGood_append_pair, fun _ => rfl, fun c p f wf frame => ?_⟩
  exact ⟨(Frame.inForm_of_frameOf wf frame).judge, commandOf_of_frameOf wf frame⟩

end Sys2Proof.Machine

/-! SUPPORT. Receptions (R150 to R153): what FRAME_RECEPTION makes of a frame's characters and of a reception that
fails a check, and where a received frame goes. -/

namespace Sys2Proof.Machine

/-! ## A reception and the command of its frame (R151) -/

/-- A frame command is received on its port, and its owner acts. -/
theorem exec_of_frameOf {c : Instr} {p : TrunkPort} {f : Frame} (frame : frameOf c = some (p, f)) :
    ∃ o, ∀ s, exec c s = .next (s.receive p f (some o)) ∧ execFrame c s = exec c s := by
  cases c <;> cases frame <;> exact ⟨_, fun _ => ⟨rfl, rfl⟩⟩

section Reception

variable {f : Frame} (p : TrunkPort) (s : State)

theorem Frame.InForm.exec_of_command (h : f.InForm) {c : Instr} (spells : commandOf p f = some c) :
    exec (.frameReception p s.trunk.period f.chars) s = exec c s := by
  obtain ⟨o, ran⟩ := exec_of_frameOf (frameOf_of_commandOf spells)
  rw [← (ran s).2]
  change execFrameReception p s.trunk.period f.chars s = _
  simp [execFrameReception, h.judge, spells]

theorem Frame.InForm.exec_of_rest (h : f.InForm) (spells : commandOf p f = none) :
    exec (.frameReception p s.trunk.period f.chars) s = .next (s.receive p f (ownerOfRest f)) := by
  change execFrameReception p s.trunk.period f.chars s = _
  simp [execFrameReception, h.judge, spells]

/-- Whatever acts on it, a frame in form is received. -/
theorem Frame.InForm.exec_receives (h : f.InForm) :
    ∃ owner, exec (.frameReception p s.trunk.period f.chars) s = .next (s.receive p f owner) := by
  cases spells : commandOf p f with
  | none => exact ⟨_, h.exec_of_rest p s spells⟩
  | some c =>
    obtain ⟨o, ran⟩ := exec_of_frameOf (frameOf_of_commandOf spells)
    exact ⟨some o, (h.exec_of_command p s spells).trans (ran s).1⟩

theorem Frame.InForm.exec_of_badLength (h : f.InForm) {k : FrameKind} (kind : kindOf f.kind = some k)
    (notReply : k ≠ .reply) (bad : lengthAllowed k f.payload = false) :
    exec (.frameReception p s.trunk.period f.chars) s
      = .next (s.receive p f (some ⟨false, actBadLength k⟩)) := by
  have owner : ownerOfRest f = some ⟨false, actBadLength k⟩ := by
    unfold ownerOfRest
    rw [kind]
    cases k
    case reply => exact absurd rfl notReply
    all_goals rfl
  rw [h.exec_of_rest p s (commandOf_of_badLength kind bad), owner]

theorem Frame.InForm.exec_of_reply (h : f.InForm) (kind : kindOf f.kind = some .reply) :
    exec (.frameReception p s.trunk.period f.chars) s = .next (s.receive p f none) := by
  rw [h.exec_of_rest p s (commandOf_of_reply kind), ownerOfRest, kind]

end Reception

/-- A SET_WRITE whose record has not its table's length is refused as the length check refuses it (R138, R153). -/
theorem actSetWrite_of_badLength (src : Nat) {table index : Nat} {record : List Byte} (small : isByte table = true)
    (bad : lengthAllowed .setWrite (byte table :: byte index :: record) = false) :
    actSetWrite src table index record = actBadLength .setWrite := by
  funext s
  simp only [lengthAllowed, toNat_byte_of_isByte small] at bad
  unfold actSetWrite
  split
  next unknown => rw [unknown] at bad; cases bad
  next t known =>
    rw [known] at bad
    exact if_pos (beq_eq_false_iff_ne.mp bad)

/-- The operands of a well-formed command other than SET_WRITE spell a payload of a length allowed for its kind. -/
theorem lengthAllowed_of_frameOf {c : Instr} {p : TrunkPort} {f : Frame} (wf : c.wellFormed = true)
    (frame : frameOf c = some (p, f)) (other : ∀ rx table index record, c ≠ .setWrite rx table index record)
    (k : FrameKind) (kind : kindOf f.kind = some k) : lengthAllowed k f.payload = true := by
  have fits {rx : Rx} {k' : FrameKind} {payload : List Byte} (h : lengthAllowed k' payload = true)
      (known : kindOf (frameUnder rx k' payload).kind = some k) : lengthAllowed k payload = true :=
    Option.some.inj ((kindOf_code k').symm.trans known) ▸ h
  cases c <;> cases frame
  case setWrite rx table index record => exact absurd rfl (other rx table index record)
  case unknownKind rx code payload =>
    simp only [Instr.wellFormed, Bool.and_eq_true, Bool.not_eq_true'] at wf
    exact absurd ((kindOf_eq_none wf.1.2).symm.trans kind) nofun
  case zoneAlarm rx zone episode => cases episode <;> exact fits rfl kind
  all_goals exact fits rfl kind

/-- Settles O4: a frame of an allowed length spells its command; one of another length, which only SET_WRITE can
have, is refused by its owner as by the length check. -/
theorem receptionHasCommandEffect : Obligations.ReceptionHasCommandEffect := by
  intro c p f s wf frame
  have inForm := Frame.inForm_of_frameOf wf frame
  by_cases allowed : ∀ k, kindOf f.kind = some k → lengthAllowed k f.payload = true
  · exact inForm.exec_of_command p s (commandOf_of_frameOf wf frame allowed)
  · have isSetWrite : ∃ rx table index record, c = .setWrite rx table index record := by
      by_contra other
      push Not at other
      exact allowed (lengthAllowed_of_frameOf wf frame other)
    obtain ⟨rx, table, index, record, rfl⟩ := isSetWrite
    cases frame
    have bad : lengthAllowed .setWrite (byte table :: byte index :: record) = false := by
      by_contra fits
      refine allowed fun k kind => ?_
      cases kind
      exact Bool.not_eq_false _ ▸ fits
    simp only [Instr.wellFormed, Bool.and_eq_true] at wf
    obtain ⟨⟨⟨-, tableByte⟩, -⟩, -⟩ := wf
    rw [inForm.exec_of_badLength _ s (kindOf_code .setWrite) nofun bad,
      ← actSetWrite_of_badLength rx.src tableByte bad]
    rfl

/-! ## Where a received frame goes (R150 to R152) -/

section Routes

variable (s : State) (p : TrunkPort) (f : Frame) (owner : Option Owner)

theorem State.receive_of_repeater (repeater : s.trunk.address = none) :
    s.receive p f owner = s.forwardOnly p f := by
  simp [State.receive, repeater]

theorem State.receive_of_looped (looped : s.trunk.address = some f.src) :
    s.receive p f owner = s.logFrame .loop p f := by
  simp [State.receive, looped]

variable {a : Nat} (address : s.trunk.address = some a) (notLooped : f.src ≠ a)

include address notLooped

theorem State.receive_elsewhere (elsewhere : f.dst ≠ a) (notCast : f.dst = 0 → f.isBroadcast = false) :
    s.receive p f owner = (s.supervise f.src).forwardOnly p f := by
  have passed : ¬ (f.dst = 0 ∧ f.isBroadcast = true) := fun ⟨zero, cast⟩ =>
    absurd ((notCast zero).symm.trans cast) nofun
  simp [State.receive, address, notLooped, elsewhere, passed]

theorem State.receive_reply (here : f.dst = a) : s.receive p f none = s.supervise f.src := by
  simp [State.receive, address, notLooped, here]

end Routes

/-- Settles O7: each check, failed, ends the reception with its line error. -/
theorem failedReceiveChecksOnlyLog : Obligations.FailedReceiveChecksOnlyLog := by
  intro p chars s
  refine ⟨fun period other => if_pos other, fun bad => ?crc, ?form, ?loop⟩
  case crc =>
    have judged : judgeReception chars = .crcBad := if_pos bad
    change execFrameReception p s.trunk.period chars s = _
    simp [execFrameReception, judged]
  case form =>
    rintro kind dst src hop seq len rest rfl long good outOfForm
    have judged := judgeReception_of_good kind dst src hop seq len rest long good
    rw [if_neg (mt (RawHeader.inForm_iff _ _).mp outOfForm)] at judged
    change execFrameReception p s.trunk.period _ s = _
    simp only [execFrameReception, judged, ne_eq, not_true_eq_false, if_false]
  case loop =>
    rintro f inForm rfl looped
    obtain ⟨owner, received⟩ := inForm.exec_receives p s
    rw [received, s.receive_of_looped p f owner looped]
    rfl

theorem Frame.isBroadcast_eq_false {f : Frame} (h : ∀ k, kindOf f.kind = some k → k.isBroadcast = false) :
    f.isBroadcast = false :=
  (Option.any_eq_false _ _).mpr h

/-- Settles O8: every frame in form is received, and the routes that pass the owner by are said once. -/
theorem framesForOthersAreForwarded : Obligations.FramesForOthersAreForwarded := by
  intro p f s inForm
  obtain ⟨owner, received⟩ := inForm.exec_receives p s
  refine ⟨fun a address notLooped elsewhere notCast => ?elsewhere, fun a address notLooped here isReply => ?reply,
    fun repeater => ?repeater⟩
  case elsewhere =>
    rw [received, s.receive_elsewhere p f owner address notLooped elsewhere fun zero =>
      Frame.isBroadcast_eq_false (notCast zero)]
  case reply =>
    have kind : kindOf f.kind = some .reply := isReply ▸ kindOf_code .reply
    rw [inForm.exec_of_reply p s kind, s.receive_reply p f address notLooped here]
  case repeater => rw [received, s.receive_of_repeater p f owner repeater]

/-! ## Unknown kinds and lengths not allowed (R153) -/

section Unacted

variable (s : State) (p : TrunkPort) (f : Frame) {a : Nat} (address : s.trunk.address = some a)
  (notLooped : f.src ≠ a)

include address notLooped

/-- A frame for the node whose owner does not act but reports a line error. -/
theorem State.receive_of_refuses {act : State → Acted} {t : State} {e : ErrorKind} {status : Status}
    {body : List Byte} (here : f.dst = a) (acts : act (s.supervise f.src) = ⟨t, some e, status, body, false⟩) :
    s.receive p f (some ⟨false, act⟩) = (t.logFrame e p f).reply p f a status body false := by
  rw [s.receive_addressed p f _ a address notLooped here]
  simp [State.consume, Owner.run, acts, State.logOption]

end Unacted

/-- The body of the answer to a length not allowed reads the store, the supply and the free values, which panel
supervision leaves. -/
theorem State.lengthBody_supervise (s : State) (src : Nat) (k : FrameKind) :
    (s.supervise src).lengthBody k = s.lengthBody k := by
  unfold State.lengthBody State.stagingBody State.generationBody State.supplyBody
  simp only [State.supervise_store, State.supervise_supply, State.supervise_freeCount]

theorem SupplyState.code_eq_idxOf (u : SupplyState) : u.code = [SupplyState.ok, .low, .high].idxOf u := by
  cases u <;> rfl

/-- The kinds whose refused request is answered without a body, and without a free value. -/
theorem State.lengthBody_of_other (s : State) {k : FrameKind}
    (other : ¬ (k = .setWrite ∨ k = .setCommit ∨ k = .setDiscard ∨ k = .read ∨ k = .supplyClear ∨ k = .collect)) :
    s.lengthBody k = ([], s.freeCount) := by
  cases k
  case setWrite | setCommit | setDiscard | read | supplyClear | collect => exact absurd (by decide) other
  all_goals rfl

theorem FrameKind.not_answered_of_isBroadcast {k : FrameKind} (cast : k.isBroadcast = true) :
    ¬ (k = .setWrite ∨ k = .setCommit ∨ k = .setDiscard ∨ k = .read ∨ k = .supplyClear ∨ k = .collect) := by
  rintro (rfl | rfl | rfl | rfl | rfl | rfl) <;> cases cast

theorem actBadLength_supervise (s : State) (src : Nat) (k : FrameKind) :
    actBadLength k (s.supervise src)
      = ⟨(s.supervise src).setFreeCount (s.lengthBody k).2, some .malformed, .badValue, (s.lengthBody k).1, false⟩ := by
  rw [actBadLength, s.lengthBody_supervise]

/-- Where no free value is used, a frame of a length not allowed leaves what panel supervision leaves. -/
theorem actBadLength_supervise_of_plain {s : State} {k : FrameKind} {body : List Byte} (src : Nat)
    (plain : s.lengthBody k = (body, s.freeCount)) :
    actBadLength k (s.supervise src) = ⟨s.supervise src, some .malformed, .badValue, body, false⟩ := by
  have kept : (s.supervise src).setFreeCount s.freeCount = s.supervise src := by
    rw [← s.supervise_freeCount src, State.setFreeCount_self]
  rw [actBadLength_supervise, plain, kept]

/-- Settles O10: the owner of the length check refuses every kind alike but for its body, and the Dispatcher the
unknown kinds. -/
theorem unactedFramesAreAnswered : Obligations.UnactedFramesAreAnswered := by
  refine ⟨fun rx code payload a s unknown ⟨address, notLooped⟩ => ?unknown,
    fun p f a k s inForm address notLooped kind notReply bad => ?length⟩
  case unknown =>
    intro f s1
    have received : exec (.unknownKind rx code payload) s
        = .next (s.receive rx.port f (some ⟨false, actUnknownKind⟩)) := rfl
    have notCast : f.isBroadcast = false :=
      Frame.isBroadcast_eq_false fun k known => absurd (unknown.symm.trans known) nofun
    refine ⟨fun here => ?_, fun elsewhere => ?_⟩
    · rw [received, s.receive_of_refuses rx.port f address notLooped here rfl]
      rfl
    · rw [received, s.receive_elsewhere rx.port f _ address notLooped elsewhere fun _ => notCast]
      rfl
  case length =>
    intro s1 exec' answers
    have received : exec' = .next (s.receive p f (some ⟨false, actBadLength k⟩)) :=
      inForm.exec_of_badLength p s kind notReply bad
    refine ⟨fun here => ?here, fun elsewhere zero cast => ?cast⟩
    case here =>
      have plain {body : List Byte} (h : s.lengthBody k = (body, s.freeCount)) : answers s1 body :=
        received.trans (congrArg _ (s.receive_of_refuses p f address notLooped here
          (actBadLength_supervise_of_plain f.src h)))
      refine ⟨fun isSet => ?_, ?_, ?_, ?_, fun other => plain (s.lengthBody_of_other other)⟩
      · have staging : answers s1 s.stagingBody := by
          obtain rfl | rfl | rfl := isSet <;> exact plain rfl
        unfold State.stagingBody at staging
        exact ⟨fun closed => by simpa only [closed] using staging,
          fun x opened => by simpa only [opened] using staging⟩
      · rintro rfl
        exact plain rfl
      · rintro rfl
        rw [← SupplyState.code_eq_idxOf]
        exact plain rfl
      · rintro rfl
        exact ⟨_, List.length_take_le 46 (Config.refusedCollectBody s.freeCount),
          received.trans (congrArg _ (s.receive_of_refuses p f address notLooped here
            (actBadLength_supervise s f.src .collect)))⟩
    case cast =>
      have isCast : f.isBroadcast = true := by rw [Frame.isBroadcast, kind]; exact cast
      have ran : (⟨false, actBadLength k⟩ : Owner).run f.src s = ⟨s1, some .malformed, .badValue, [], false⟩ :=
        actBadLength_supervise_of_plain f.src
          (s.lengthBody_of_other (FrameKind.not_answered_of_isBroadcast cast))
      rw [received, s.receive_broadcast p f _ a address notLooped elsewhere zero isCast]
      have counted : s1.freeCount = s.freeCount := s.supervise_freeCount f.src
      refine ⟨fun quiet => ?_, fun e loud => ?_⟩
      · simp only [State.actAndForward, ran, quiet]
      · simp only [State.actAndForward, ran, loud, State.forward_freeCount, counted]
        split
        · exact .inr rfl
        · exact .inl rfl

end Sys2Proof.Machine

/-! SUPPORT. The ports' own events and what is put to a port (R148, R149, R155, R156, R158, R159): an entry's way by
the port's state, the forwarding and the reply that follow from it, and a NODE_RESET's reply. -/

namespace Sys2Proof.Machine

/-! ## An entry put to a port (R149, R158) -/

section Put

variable {x : Port} (c : QueueClass) (e : Entry)

theorem Port.put_of_down (down : x.link = false) : x.put c e = (x, .linkDown) := if_pos down

theorem Port.put_of_idle (up : x.link = true)
    (idle : x.flight = none ∧ x.gap = false ∧ x.urgent = [] ∧ x.normal = []) :
    x.put c e = ({ x with flight := some e }, .taken) := by
  simp [Port.put, up, Port.startsAtOnce_iff.mpr idle]

section Busy

variable (up : x.link = true) (busy : ¬ (x.flight = none ∧ x.gap = false ∧ x.urgent = [] ∧ x.normal = []))

include up busy

theorem Port.put_urgent_of_room (room : x.urgent.length < Config.urgentCapacity) :
    x.put .urgent e = ({ x with urgent := x.urgent ++ [e] }, .taken) := by
  simp [Port.put, up, Port.startsAtOnce_eq_false_iff.mpr busy, Nat.not_le_of_lt room]

theorem Port.put_urgent_of_full (full : Config.urgentCapacity ≤ x.urgent.length) :
    x.put .urgent e = (x, .full) := by
  simp [Port.put, up, Port.startsAtOnce_eq_false_iff.mpr busy, full]

theorem Port.put_normal_of_room (room : x.normal.length < Config.normalCapacity) :
    x.put .normal e = ({ x with normal := x.normal ++ [e] }, .taken) := by
  simp [Port.put, up, Port.startsAtOnce_eq_false_iff.mpr busy, Nat.not_le_of_lt room]

theorem Port.put_normal_of_full (full : Config.normalCapacity ≤ x.normal.length) :
    x.put .normal e = (x, .full) := by
  simp [Port.put, up, Port.startsAtOnce_eq_false_iff.mpr busy, full]

end Busy

end Put

/-! ## Forwarding (R156) -/

theorem queueClass_eq_urgent_iff (map : BitVec 17) (kind : Byte) :
    queueClass map kind = .urgent ↔ ∃ k, kindOf kind = some k ∧ map.getLsbD k.mapBit = true := by
  unfold queueClass
  cases kindOf kind with
  | none => simp
  | some k => cases h : map.getLsbD k.mapBit <;> simp [h]

theorem queueClass_eq_normal {map : BitVec 17} {kind : Byte}
    (h : ¬ ∃ k, kindOf kind = some k ∧ map.getLsbD k.mapBit = true) : queueClass map kind = .normal := by
  rw [← queueClass_eq_urgent_iff] at h
  cases q : queueClass map kind <;> [exact absurd q h; rfl]

section Forward

variable (s : State) (p : TrunkPort) (f : Frame)

/-- The entry that forwarding puts to the opposite port. -/
def forwarded (f : Frame) : Entry := ⟨{ f with hop := f.hop - 1 }, false⟩

theorem State.forwardOnly_of_expired (expired : f.hop = 0) :
    s.forwardOnly p f = s.logFrame .hopExpired p f := by
  simp [State.forwardOnly, State.forward, expired, State.logOption]

variable (alive : f.hop ≠ 0)

include alive

theorem State.forwardOnly_of_taken {x : Port}
    (put : (s.port (otherPort p)).put (queueClass s.node.classMap f.kind) (forwarded f) = (x, .taken)) :
    s.forwardOnly p f = s.setPort (otherPort p) x := by
  rw [forwarded] at put
  simp [State.forwardOnly, State.forward, alive, put, State.logOption]

theorem State.forwardOnly_of_full {x : Port}
    (put : (s.port (otherPort p)).put (queueClass s.node.classMap f.kind) (forwarded f) = (x, .full)) :
    s.forwardOnly p f = s.logFrame .queueFull p f := by
  rw [forwarded] at put
  simp [State.forwardOnly, State.forward, alive, put, State.logOption]

theorem State.forwardOnly_of_down {x : Port}
    (put : (s.port (otherPort p)).put (queueClass s.node.classMap f.kind) (forwarded f) = (x, .linkDown)) :
    s.forwardOnly p f = s := by
  rw [forwarded] at put
  simp [State.forwardOnly, State.forward, alive, put, State.logOption]

end Forward

/-! ## Replies (R155, R159) -/

section Reply

variable (s : State) (p : TrunkPort) (f : Frame) (a : Nat) (status : Status) (body : List Byte) {x : Port}

theorem State.reply_of_taken (put : (s.port p).put .normal ⟨replyFrame a f status body, false⟩ = (x, .taken)) :
    s.reply p f a status body false = s.setPort p x := by
  simp [State.reply, put]

theorem State.reply_of_full (put : (s.port p).put .normal ⟨replyFrame a f status body, false⟩ = (x, .full)) :
    s.reply p f a status body false = s.logFrame .queueFull p f := by
  simp [State.reply, put]

theorem State.reply_of_down (put : (s.port p).put .normal ⟨replyFrame a f status body, false⟩ = (x, .linkDown)) :
    s.reply p f a status body false = s := by
  simp [State.reply, put]

/-- While a reset is pending no further reply carries one. -/
theorem State.reply_of_pending (pending : s.trunk.pendingReset = true) (reset : Bool) :
    s.reply p f a status body reset = s.reply p f a status body false := by
  simp [State.reply, pending]

section Carries

variable (free : s.trunk.pendingReset = false)

include free

theorem State.reply_carrying_of_taken
    (put : (s.port p).put .normal ⟨replyFrame a f status body, true⟩ = (x, .taken)) :
    s.reply p f a status body true
      = s.setTrunk { s.trunk.setPort x p with pendingReset := true } := by
  simp [State.reply, free, put]
  rfl

theorem State.reply_carrying_of_full
    (put : (s.port p).put .normal ⟨replyFrame a f status body, true⟩ = (x, .full)) :
    s.reply p f a status body true = (s.logFrame .queueFull p f).nodeReset := by
  simp [State.reply, free, put]

theorem State.reply_carrying_of_down
    (put : (s.port p).put .normal ⟨replyFrame a f status body, true⟩ = (x, .linkDown)) :
    s.reply p f a status body true = s.nodeReset := by
  simp [State.reply, free, put]

end Carries

end Reply

/-- Settles O9: each clause is the one way an entry can go in that state of the port, forwarded or as a reply. -/
theorem forwardsAndRepliesTakeTheirPort : Obligations.ForwardsAndRepliesTakeTheirPort := by
  refine ⟨fun p f s => ?forwards, fun p f a status body s => ?replies⟩
  case forwards =>
    intro q x e urgent idle
    have asUrgent (h : urgent) := (queueClass_eq_urgent_iff s.node.classMap f.kind).mpr h
    have asNormal (h : ¬ urgent) := queueClass_eq_normal (map := s.node.classMap) h
    refine ⟨s.forwardOnly_of_expired p f, fun alive down => ?_, fun alive up free => ?_,
      fun alive up busy h room => ?_, fun alive up busy h full => ?_, fun alive up busy h room => ?_,
      fun alive up busy h full => ?_⟩
    · exact s.forwardOnly_of_down p f alive (Port.put_of_down _ _ down)
    · exact s.forwardOnly_of_taken p f alive (Port.put_of_idle _ _ up free)
    · exact s.forwardOnly_of_taken p f alive (asUrgent h ▸ Port.put_urgent_of_room _ up busy room)
    · exact s.forwardOnly_of_full p f alive (asUrgent h ▸ Port.put_urgent_of_full _ up busy full)
    · exact s.forwardOnly_of_taken p f alive (asNormal h ▸ Port.put_normal_of_room _ up busy room)
    · exact s.forwardOnly_of_full p f alive (asNormal h ▸ Port.put_normal_of_full _ up busy full)
  case replies =>
    intro x e idle
    refine ⟨fun down => ?_, fun up free => ?_, fun up busy room => ?_, fun up busy full => ?_⟩
    · exact s.reply_of_down p f a status body (Port.put_of_down _ _ down)
    · exact s.reply_of_taken p f a status body (Port.put_of_idle _ _ up free)
    · exact s.reply_of_taken p f a status body (Port.put_normal_of_room _ up busy room)
    · exact s.reply_of_full p f a status body (Port.put_normal_of_full _ up busy full)

/-! ## Links and transmissions (R148, R149, R158) -/

/-- Settles O12: each event of a port, on the port alone. -/
theorem portEventsFollowRules : Obligations.PortEventsFollowRules := by
  intro p s x
  have starts (noFlight : x.flight = none) : exec (.transmissionStart p) s = .next (s.setPort p x.start) :=
    if_pos (Option.isNone_iff_eq_none.mpr noFlight)
  refine ⟨fun plain => if_neg (ne_true_of_eq_false plain), fun holds => if_pos holds, rfl, fun f inFlight => ?ends,
    fun noFlight e rest waits => ?urgent, fun noFlight noUrgent e rest waits => ?normal,
    fun noFlight noUrgent noNormal => ?idle⟩
  case ends =>
    change Host.Outcome.next (s.endTransmission p) = _
    have same : (s.port p).flight = some ⟨f, false⟩ := inFlight
    simp [State.endTransmission, same, x]
  case urgent => rw [starts noFlight, Port.start, waits]
  case normal => rw [starts noFlight, Port.start, noUrgent, waits]
  case idle => rw [starts noFlight, Port.start, noUrgent, noNormal, noFlight]

/-! ## The request of a node reset (R159) -/

theorem nodeResetFrame_notCast (rx : Rx) : (nodeResetFrame rx).isBroadcast = false := rfl

/-- Settles O13: the reply's way, with the reset that it carries, in each state of the arrival port. -/
theorem nodeResetIsAnsweredFirst : Obligations.NodeResetIsAnsweredFirst := by
  rintro rx a s ⟨address, notLooped⟩
  intro f s1 x e idle room
  have answered (here : rx.dst = a) : exec (.nodeReset rx) s = .next (s1.reply rx.port f a .accepted [] true) := by
    change Host.Outcome.next (s.receive rx.port f (some ⟨false, actNodeReset⟩)) = _
    rw [s.receive_addressed rx.port f _ a address notLooped here]
    rfl
  have heard : s1.trunk = s.trunk := s.supervise_trunk rx.src
  have port : s1.port rx.port = x := congrArg (Trunk.port · rx.port) heard
  have noneHeard (free : s.trunk.pendingReset = false) : s1.trunk.pendingReset = false := heard ▸ free
  refine ⟨fun here pending => ?pending, fun here free up hasRoom => ?room, fun here free up noRoom => ?full,
    fun here free down => ?down, fun elsewhere => ?elsewhere⟩
  case pending =>
    rw [answered here, s1.reply_of_pending _ _ _ _ _ (heard ▸ pending)]
  case room =>
    intro sent
    have taken {y : Port} (put : x.put .normal e = (y, .taken)) : exec (.nodeReset rx) s = .next (sent y) := by
      rw [← port] at put
      rw [answered here, s1.reply_carrying_of_taken rx.port f a .accepted [] (noneHeard free) put, heard]
    exact ⟨fun isIdle => taken (Port.put_of_idle _ _ up isIdle),
      fun busy => taken (Port.put_normal_of_room _ up busy (hasRoom.resolve_left busy))⟩
  case full =>
    obtain ⟨busy, full⟩ := not_or.mp noRoom
    rw [answered here, s1.reply_carrying_of_full _ _ _ _ _ (noneHeard free)
      (port ▸ Port.put_normal_of_full _ up busy (Nat.le_of_not_lt full))]
  case down =>
    rw [answered here, s1.reply_carrying_of_down _ _ _ _ _ (noneHeard free) (port ▸ Port.put_of_down _ _ down)]
  case elsewhere =>
    change Host.Outcome.next (s.receive rx.port f (some ⟨false, actNodeReset⟩)) = _
    rw [s.receive_elsewhere rx.port f _ address notLooped elsewhere fun _ => nodeResetFrame_notCast rx]
    rfl

end Sys2Proof.Machine

/-! SUPPORT. What power-on, a node reset and the reset state leave in every block (R22, R23, R43, R44, R60, R61, R68,
R72, R73, R101, R123, R125, R126, R135, R146, R149, R150, R159, R169). -/

namespace Sys2Proof.Machine

/-! ## Power-on (R150) -/

/-- Straps 0 and 63 put the part in repeater mode. -/
theorem strapAddress_eq {straps : Nat} (h : straps ≤ 63) :
    strapAddress straps = if straps = 0 ∨ straps = 63 then none else some straps := by
  have node : (1 ≤ straps ∧ straps ≤ 62) ↔ ¬ (straps = 0 ∨ straps = 63) := by omega
  rw [strapAddress, if_congr node rfl rfl, ite_not]

theorem State.powerOn_port (s : State) (straps : Nat) (rate : LineRate) (contact : Level) (p : TrunkPort) :
    (s.powerOn straps rate contact).port p = Port.powerOn := by
  cases p <;> rfl

/-- Settles O11: every block takes its power-on record; the Branch Master's and the Supply Monitor's follow the
mode that the straps give. -/
theorem powerOnSetsEveryBlock : Obligations.PowerOnSetsEveryBlock := by
  intro straps rate contact s inRange
  have address := strapAddress_eq inRange
  have mode : (strapAddress straps).isNone = decide (straps = 0 ∨ straps = 63) := by
    rw [address]
    split_ifs with repeater <;> simp [repeater]
  refine ⟨s.powerOn straps rate contact, rfl, address, rfl, fun p => ?ports, rfl, rfl, rfl,
    fun z => Table.get_fill _ z, rfl, rfl, rfl, fun n => Table.get_fill _ n, rfl, rfl, rfl, rfl, rfl,
    fun repeater => ?silent, fun node => ?starts, rfl, rfl, rfl, rfl, rfl, rfl, ?sample, rfl⟩
  case ports =>
    rw [State.powerOn_port]
    exact ⟨rfl, rfl, rfl, rfl⟩
  case silent => simp [State.powerOn, Branch.powerOn, mode, repeater]
  case starts => simp [State.powerOn, Branch.powerOn, mode, node, allStop]
  case sample => simp [State.powerOn, Supply.powerOn, mode]

/-! ## The effect of a node reset (R159) -/

theorem State.nodeReset_port (s : State) (p : TrunkPort) : s.nodeReset.port p = (s.port p).nodeReset := by
  cases p <;> rfl

theorem State.nodeReset_channel (s : State) (n : ChannelNo) :
    s.nodeReset.channels.get n = resetChannel s (s.record n) (s.channels.get n) :=
  Table.get_mapIdx _ _ _

theorem resetChannel_of_used {s : State} {rec : ChannelRecord} {c : Channel} (used : rec.inUse = true) :
    resetChannel s rec c
      = ⟨resetStack s rec c.stack, some (compose s.store.active s.weather rec (resetStack s rec c.stack)),
          Engine.powerOn, Binding.none⟩ := by
  simp [resetChannel, used]

theorem resetChannel_of_unused {s : State} {rec : ChannelRecord} {c : Channel} (unused : rec.inUse = false) :
    resetChannel s rec c = ⟨c.stack, c.result, Engine.powerOn, Binding.none⟩ := by
  simp [resetChannel, unused]

/-- A port's queues are emptied, and a frame in flight on a link that is UP is cut. -/
theorem Port.nodeReset_cuts (x : Port) :
    x.nodeReset.link = x.link ∧ x.nodeReset.urgent = [] ∧ x.nodeReset.normal = []
      ∧ (x.link = true → x.nodeReset.flight = none) := by
  unfold Port.nodeReset
  split
  next noFlight => exact ⟨rfl, rfl, rfl, fun _ => noFlight⟩
  · split
    · exact ⟨rfl, rfl, rfl, fun _ => rfl⟩
    next down => exact ⟨rfl, rfl, rfl, fun up => absurd up down⟩

/-- On a link that is DOWN the frame in flight completes. -/
theorem Port.nodeReset_completes {x : Port} {e : Entry} (down : x.link = false) (inFlight : x.flight = some e) :
    x.nodeReset.flight = some ⟨e.frame, false⟩ := by
  simp [Port.nodeReset, inFlight, down]

theorem Port.nodeReset_of_sent {x : Port} (sent : x.flight = none) : x.nodeReset = x.emptied := by
  simp [Port.nodeReset, sent]

theorem TrunkPort.forall_of_pair {P : TrunkPort → Prop} (p : TrunkPort) (here : P p) (there : P (otherPort p)) :
    ∀ q, P q := by
  cases p
  · exact fun | .up => here | .down => there
  · exact fun | .up => there | .down => here

/-- The end of the transmission of the reply that carries the reset, before the reset takes effect. -/
def State.sent (p : TrunkPort) (s : State) : State := s.setPort p { s.port p with flight := none, gap := true }

theorem State.sent_port_self (s : State) (p : TrunkPort) :
    (s.sent p).port p = { s.port p with flight := none, gap := true } := by
  cases p <;> rfl

theorem State.sent_port_other (s : State) (p : TrunkPort) :
    (s.sent p).port (otherPort p) = s.port (otherPort p) := by
  cases p <;> rfl

theorem State.endTransmission_of_carries {s : State} {p : TrunkPort} {f : Frame}
    (inFlight : (s.port p).flight = some ⟨f, true⟩) : s.endTransmission p = (s.sent p).nodeReset := by
  simp [State.endTransmission, inFlight, State.sent]

/-- Either row tells the end of that transmission (assumption 14). -/
theorem exec_of_resetSent {c : Instr} {p : TrunkPort} {f : Frame} {s : State}
    (inFlight : (s.port p).flight = some ⟨f, true⟩)
    (row : c = .transmissionEnd p
      ∨ (c = .nodeResetTakesEffect ∧ (s.port (otherPort p)).flightResets = false)) :
    exec c s = .next (s.sent p).nodeReset := by
  rw [← State.endTransmission_of_carries inFlight]
  obtain rfl | ⟨rfl, other⟩ := row
  · rfl
  · have carries : (s.port p).flightResets = true := by rw [Port.flightResets, inFlight]; rfl
    change execNodeResetTakesEffect s = _
    cases p
    · exact if_pos carries
    · exact (if_neg (ne_true_of_eq_false other)).trans (if_pos carries)

/-- Settles O14: the part with the reply sent is reset, block by block. -/
theorem nodeResetSetsEveryBlock : Obligations.NodeResetSetsEveryBlock := by
  intro c p f s inFlight row
  have here : ((s.sent p).nodeReset.port p) = { s.port p with flight := none, gap := true }.emptied := by
    rw [State.nodeReset_port, State.sent_port_self]
    exact Port.nodeReset_of_sent rfl
  have there : (s.sent p).nodeReset.port (otherPort p) = (s.port (otherPort p)).nodeReset := by
    rw [State.nodeReset_port, State.sent_port_other]
  have channel (n : ChannelNo) : (s.sent p).nodeReset.channels.get n
      = resetChannel (s.sent p) (s.record n) (s.channels.get n) := (s.sent p).nodeReset_channel n
  refine ⟨(s.sent p).nodeReset, exec_of_resetSent inFlight row, Trunk.setPort_address _ _ _, Trunk.setPort_rate _ _ _,
    rfl, TrunkPort.forall_of_pair p ?here ?there, ?flight, ?gap, fun x down other => ?completes,
    congrArg (· + 1) (Trunk.setPort_period _ _ _), rfl, rfl, rfl, rfl, rfl, fun n => ?engine, fun n used => ?used,
    fun n unused => ?unused, rfl, rfl, rfl⟩
  case here => rw [here]; exact ⟨rfl, rfl, rfl, fun _ => rfl⟩
  case there => rw [there]; exact Port.nodeReset_cuts _
  case flight => rw [here]; rfl
  case gap => rw [here]; rfl
  case completes => rw [there]; exact Port.nodeReset_completes down other
  case engine => rw [channel]; exact ⟨rfl, rfl⟩
  case used =>
    rw [channel, resetChannel_of_used used]
    exact ⟨rfl, rfl⟩
  case unused =>
    rw [channel, resetChannel_of_unused unused]
    exact ⟨rfl, rfl⟩

/-! ## The reset state -/

/-- Settles O51: in the default set no channel is in use, and every block is as power-on leaves it. -/
theorem resetMeetsEveryLaw : Obligations.ResetMeetsEveryLaw := by
  have unused (n : ChannelNo) : (State.reset.record n).inUse = false := by
    simp [State.reset, State.record, defaultSet, defaultChannelRecord]
  have channel (n : ChannelNo) : State.reset.channels.get n = Channel.powerOn := Table.get_fill _ n
  refine ⟨?notice, ?ports, rfl, fun n => ?composition, fun n used => ?cells, ?engine, fun n latched => ?smoke,
    fun out => absurd rfl out, ?weather, ?supply, ?supervision, fun _ active => ?contact, ?store, ?branch, nofun⟩
  case notice => exact ⟨rfl, .nil⟩
  case ports => exact ⟨by decide, by decide⟩
  case composition =>
    rw [unused, channel]
    exact ⟨rfl, rfl⟩
  case cells => exact absurd (used.symm.trans (unused n)) nofun
  case engine =>
    exact State.reset.engineLaw_iff.mpr ⟨State.exchangeInOrder_of_none rfl, fun n =>
      Channel.inOrder_of_powerOn _ (by rw [channel]; rfl) (by rw [channel]; rfl)⟩
  case smoke =>
    rw [channel] at latched
    cases latched
  case weather =>
    exact (State.weatherLaw_iff _).mpr
      ⟨holdInOrder_stopped _ _, holdInOrder_stopped _ _, rfl, Nat.zero_le 600⟩
  case supply => exact (State.supplyLaw_iff _).mpr (Supply.inOrder_of_zero rfl rfl rfl nofun nofun)
  case supervision => exact ⟨rfl, fun _ => rfl⟩
  case contact => cases active
  case store => exact Store.law_of_closed defaultSet_valid defaultSet_inRange (Nat.zero_le _)
  case branch =>
    exact (State.branchLaw_iff _).mpr ⟨⟨Nat.zero_le 8, .nil⟩, ⟨Nat.zero_le 16, .nil⟩, nofun, isStation_one⟩

end Sys2Proof.Machine

/-! SUPPORT. The pending notice set and its ATTENTION output (R161, R164): what raising, collecting and logging make of
the Notice Unit, said once each, and the statements about a notice raised and a line error logged. -/

namespace Sys2Proof.Machine

/-! ## The unit in order (R161, R164) -/

/-- The law of the Notice Unit, of the unit and the node record that masks it. -/
abbrev NoticeUnit.Law (node : NodeRecord) (u : NoticeUnit) : Prop :=
  u.attention = u.notices.any (offerable node) ∧ InPlaceOrder u.notices

section Unit

variable {node : NodeRecord} {u : NoticeUnit}

theorem NoticeUnit.law_powerOn (node : NodeRecord) : NoticeUnit.powerOn.Law node := ⟨rfl, .nil⟩

/-- ATTENTION is asserted anew, so that the mask it followed before does not matter. -/
theorem NoticeUnit.Law.raise {other : NodeRecord} (law : u.Law other) (node : NodeRecord) (x : Notice) :
    (u.raise node x).Law node := ⟨rfl, inPlaceOrder_raiseInto x u.notices law.2⟩

theorem NoticeUnit.Law.remove (law : u.Law node) (x : Notice) : (u.remove node x).Law node :=
  ⟨rfl, List.Pairwise.sublist (List.filter_sublist.map _) law.2⟩

/-! ## A line error on the unit (R166, R167) -/

variable {k : ErrorKind} {port : ErrorPort} {c : Captured}

theorem NoticeUnit.log_of_masked (masked : node.errorMask.getLsbD k.bit = true) :
    u.log node k port c = { u with flags := u.flags ||| BitVec.twoPow 8 k.bit } := if_pos masked

theorem NoticeUnit.log_of_unmasked (unmasked : node.errorMask.getLsbD k.bit = false) :
    u.log node k port c
      = NoticeUnit.raise node (errorNotice node k)
          { u with
            flags := u.flags ||| BitVec.twoPow 8 k.bit
            firstError := u.firstError.or (some ⟨k, port, c⟩) } :=
  if_neg (ne_true_of_eq_false unmasked)

theorem NoticeUnit.log_flags : (u.log node k port c).flags = u.flags ||| BitVec.twoPow 8 k.bit := by
  unfold NoticeUnit.log
  dsimp only
  split <;> rfl

theorem NoticeUnit.Law.log (law : u.Law node) (k : ErrorKind) (port : ErrorPort) (c : Captured) :
    (u.log node k port c).Law node := by
  cases mask : node.errorMask.getLsbD k.bit
  · rw [NoticeUnit.log_of_unmasked mask]
    exact ⟨rfl, inPlaceOrder_raiseInto _ _ law.2⟩
  · rw [NoticeUnit.log_of_masked mask]
    exact law

end Unit

/-- A record raised is pending, whatever the set held. -/
theorem mem_raiseInto_self (x : Notice) (l : List Notice) : x ∈ raiseInto x l := by
  induction l with
  | nil => exact List.mem_singleton_self x
  | cons y rest ih =>
    unfold raiseInto
    split_ifs
    · exact List.mem_cons_self
    · exact List.mem_cons_self
    · exact List.mem_cons_of_mem y ih

/-- Settles O32: the record raised takes the place of its kind and channel. -/
theorem raiseKeepsOneRecordPerKind : Obligations.RaiseKeepsOneRecordPerKind := by
  intro x s law
  refine ⟨fun y => ?_, fun unmasked => ?_⟩
  · rw [← Notice.place_eq_iff]
    exact mem_raiseInto x y s.notice.notices law.2
  · have offered : offerable s.node x = true := by rw [offerable, unmasked]; rfl
    exact List.any_eq_true.mpr ⟨x, mem_raiseInto_self x s.notice.notices, offered⟩

/-! ## A line error logged (R166, R167) -/

theorem ErrorKind.bit_lt (k : ErrorKind) : k.bit < 8 := by cases k <;> decide

theorem ErrorKind.bit_eq_bit_iff (j k : ErrorKind) : j.bit = k.bit ↔ j = k := by
  refine ⟨fun same => ?_, congrArg _⟩
  have kindOfBit (k : ErrorKind) :
      [ErrorKind.crcBad, .malformed, .loop, .hopExpired, .queueFull, .fieldRange, .unknownKind,
        .branchCrc][k.bit]? = some k := by
    cases k <;> rfl
  rw [← Option.some_inj, ← kindOfBit, same, kindOfBit]

/-- Of the flags, a line error sets its own. -/
theorem getLsbD_flag (flags : BitVec 8) (j k : ErrorKind) :
    (flags ||| BitVec.twoPow 8 k.bit).getLsbD j.bit = (decide (j = k) || flags.getLsbD j.bit) := by
  rw [BitVec.getLsbD_or, BitVec.getLsbD_twoPow, Bool.or_comm]
  simp [k.bit_lt, eq_comm, ErrorKind.bit_eq_bit_iff]

theorem State.logError_of_node {s : State} (node : s.repeater = false) (k : ErrorKind) (port : ErrorPort)
    (c : Captured) : s.logError k port c = s.setNotice (s.notice.log s.node k port c) :=
  if_neg (ne_true_of_eq_false node)

/-- Settles O33: the flag in any case, the capture and the notice where the kind is not masked. -/
theorem lineErrorIsLogged : Obligations.LineErrorIsLogged := by
  intro k port c s node u
  have logged : u = s.notice.log s.node k port c :=
    congrArg State.notice (State.logError_of_node node k port c)
  rw [logged]
  refine ⟨fun j => ?flags, fun masked => ?masked, fun unmasked => ?unmasked⟩
  case flags => rw [NoticeUnit.log_flags, getLsbD_flag]
  case masked =>
    rw [NoticeUnit.log_of_masked masked]
    exact ⟨rfl, rfl, rfl⟩
  case unmasked =>
    rw [NoticeUnit.log_of_unmasked unmasked]
    refine ⟨?_, mem_raiseInto_self _ _⟩
    change s.notice.firstError.or _ = _
    cases s.notice.firstError <;> rfl

end Sys2Proof.Machine

/-! SUPPORT. Every command keeps the pending notices in order and ATTENTION right (R161, R164): notices are raised,
collected and logged, a commit asserts ATTENTION anew under its mask, the resets empty the set, and nothing else
touches what the law reads. -/

namespace Sys2Proof.Machine

/-! ## What an event keeps -/

/-- The law of the pending notices goes over. -/
def State.KeepsNotices (s t : State) : Prop := s.NoticeLaw → t.NoticeLaw

theorem State.KeepsNotices.refl (s : State) : s.KeepsNotices s := id

theorem State.KeepsNotices.trans {s t u : State} (h : s.KeepsNotices t) (k : t.KeepsNotices u) :
    s.KeepsNotices u := fun law => k (h law)

/-- An event that leaves the store and the Notice Unit. -/
theorem State.keepsNotices_of_same {s t : State} (store : t.store = s.store) (notice : t.notice = s.notice) :
    s.KeepsNotices t := by
  intro law
  rwa [State.NoticeLaw, State.node, store, notice]

/-- An event that leaves the store, and the Notice Unit in order. -/
theorem State.keepsNotices_of_law {s t : State} (store : t.store = s.store)
    (notice : s.notice.Law s.node → t.notice.Law s.node) : s.KeepsNotices t := by
  intro law
  rw [State.NoticeLaw, State.node, store]
  exact notice law

section Events

variable (s : State)

theorem State.keepsNotices_raise (x : Notice) : s.KeepsNotices (s.raise x) := fun law =>
  NoticeUnit.Law.raise law s.node x

theorem State.keepsNotices_raiseOption (x : Option Notice) : s.KeepsNotices (s.raiseOption x) :=
  match x with
  | some x => s.keepsNotices_raise x
  | none => .refl s

theorem State.keepsNotices_logError (k : ErrorKind) (port : ErrorPort) (c : Captured) :
    s.KeepsNotices (s.logError k port c) := by
  unfold State.logError
  split
  · exact .refl s
  · exact fun law => NoticeUnit.Law.log law k port c

theorem State.keepsNotices_nodeReset : s.KeepsNotices s.nodeReset := fun _ =>
  NoticeUnit.law_powerOn s.node

theorem State.keepsNotices_changeSupply (u : Supply) : s.KeepsNotices (s.changeSupply u) :=
  State.keepsNotices_of_law (s.changeSupply_store u) fun law =>
    s.changeSupply_notice u ▸ law.raise s.node (.supply u.state)

theorem State.keepsNotices_acceptContact : s.KeepsNotices s.acceptContact := by
  unfold State.acceptContact
  dsimp only
  split
  · exact fun law => NoticeUnit.Law.raise law s.node .contact
  · exact id

/-- The new mask judges the pending notices anew, and the supply's return raises one under it (R133, R169). -/
theorem State.keepsNotices_commit (new : ConfigSet) : s.KeepsNotices (s.commit new) := by
  intro law
  have taken : (s.commitNotice new).Law new.node :=
    ⟨by unfold State.commitNotice; split <;> rfl, s.commitNotice_inPlaceOrder new law⟩
  rw [State.NoticeLaw, State.node, s.commit_active, s.commit_notice]
  split
  · exact taken.raise new.node _
  · exact taken

/-! ## Frames (R151 to R159) -/

variable (p : TrunkPort) (f : Frame)

theorem State.keepsNotices_hear (src : Nat) : s.KeepsNotices (s.hear src) :=
  State.keepsNotices_of_same (s.hear_store src) (s.hear_notice src)

theorem State.keepsNotices_supervise (src : Nat) : s.KeepsNotices (s.supervise src) :=
  State.keepsNotices_of_same (s.supervise_store src) (s.supervise_notice src)

theorem State.keepsNotices_logOption (k : Option ErrorKind) : s.KeepsNotices (s.logOption k p f) :=
  match k with
  | some _ => s.keepsNotices_logError _ _ _
  | none => .refl s

theorem State.keepsNotices_forward : s.KeepsNotices (s.forward p f).1 :=
  State.keepsNotices_of_same (s.forward_store p f) (s.forward_notice p f)

theorem State.keepsNotices_forwardOnly : s.KeepsNotices (s.forwardOnly p f) :=
  (s.keepsNotices_forward p f).trans (State.keepsNotices_logOption _ p f _)

/-- A reply refused by its queue is a line error, and one that carries a reset then brings it about (R158, R159). -/
theorem State.keepsNotices_reply (a : Nat) (status : Status) (body : List Byte) (reset : Bool) :
    s.KeepsNotices (s.reply p f a status body reset) := by
  have logged : s.KeepsNotices (s.logFrame .queueFull p f) := s.keepsNotices_logError _ _ _
  unfold State.reply
  dsimp only
  split
  · split <;> exact id
  · split
    · exact logged.trans (State.keepsNotices_nodeReset _)
    · exact logged
  · split
    · exact s.keepsNotices_nodeReset
    · exact .refl s

/-- After its owner acted, a broadcast logs at most the line errors of acting and of forwarding. -/
theorem State.keepsNotices_actAndForward (act : State → Acted) :
    (act s).state.KeepsNotices (s.actAndForward p f act) := by
  have forwarded := (act s).state.keepsNotices_forward p f
  have logs (t : State) (k : ErrorKind) : t.KeepsNotices (t.logFrame k p f) := t.keepsNotices_logError _ _ _
  unfold State.actAndForward
  dsimp only
  split
  · have counted : (act s).state.KeepsNotices
        (((act s).state.forward p f).1.setFreeCount (((act s).state.forward p f).1.freeCount + 1)) := forwarded
    split <;> exact (counted.trans (logs _ _)).trans (logs _ _)
  · exact forwarded.trans (logs _ _)
  · exact forwarded.trans (State.keepsNotices_logOption _ p f _)

end Events

/-- Whatever state it finds, the owner keeps the law. -/
def Owner.KeepsNotices (o : Owner) : Prop := ∀ s : State, s.KeepsNotices (o.act s).state

/-- Panel supervision before the owner, and the settling after it, leave the notices. -/
theorem Owner.KeepsNotices.run {o : Owner} (h : o.KeepsNotices) (src : Nat) (s : State) :
    s.KeepsNotices (o.run src s).state := by
  unfold Owner.run
  split
  · exact (s.keepsNotices_hear src).trans (h _)
  · exact (s.keepsNotices_supervise src).trans (h _)

theorem State.keepsNotices_receive (s : State) (p : TrunkPort) (f : Frame) (owner : Option Owner)
    (h : ∀ o ∈ owner, o.KeepsNotices) : s.KeepsNotices (s.receive p f owner) := by
  obtain ⟨-, repeater⟩ | ⟨-, loop⟩ | ⟨a, -, -, arrived⟩ := s.receive_cases p f owner
  · exact repeater ▸ s.keepsNotices_forwardOnly p f
  · exact loop ▸ s.keepsNotices_logError _ _ _
  · obtain ⟨-, o, ho, acts⟩ | ⟨-, -, acts⟩ | ⟨-, -, -, o, ho, acts⟩ | ⟨-, -, acts⟩ := arrived
    · exact acts ▸ (((h o ho).run f.src s).trans (State.keepsNotices_logOption _ p f _)).trans
        (State.keepsNotices_reply _ p f a _ _ _)
    · exact acts ▸ s.keepsNotices_supervise f.src
    · exact acts ▸ ((h o ho).run f.src s).trans (s.keepsNotices_actAndForward p f _)
    · exact acts ▸ (s.keepsNotices_supervise f.src).trans (State.keepsNotices_forwardOnly _ p f)

/-! ## Owners -/

section Owners

variable (s : State)

theorem actZoneAlarm_notice (zone : Nat) (episode : Option Positions) :
    (actZoneAlarm zone episode s).state.notice = s.notice := by
  unfold actZoneAlarm
  split
  · rfl
  · split <;> rfl

theorem actZoneReset_notice (zone : Nat) : (actZoneReset zone s).state.notice = s.notice := by
  unfold actZoneReset
  split
  · rfl
  · split <;> rfl

theorem actWeather_notice (src speed direction rain : Nat) :
    (actWeather src speed direction rain s).state.notice = s.notice := by
  unfold actWeather
  split <;> rfl

theorem actGroupSet_notice (group position mode : Nat) :
    (actGroupSet group position mode s).state.notice = s.notice := by
  unfold actGroupSet
  split <;> rfl

theorem actGroupRelease_notice (group : Nat) : (actGroupRelease group s).state.notice = s.notice := by
  unfold actGroupRelease
  split <;> rfl

theorem actLampSet_notice (channel value : Nat) : (actLampSet channel value s).state.notice = s.notice := by
  unfold actLampSet
  split <;> rfl

theorem actChannelClear_notice (channel : Nat) : (actChannelClear channel s).state.notice = s.notice := by
  unfold actChannelClear
  split
  · rfl
  · split <;> rfl

/-- A SET_WRITE is refused, or leaves the active set and the notices. -/
theorem actSetWrite_keepsNotices (src table index : Nat) (record : List Byte) :
    s.KeepsNotices (actSetWrite src table index record s).state := by
  unfold actSetWrite
  split
  · exact .refl s
  · split
    · exact id
    · split
      · exact .refl s
      · split
        · exact .refl s
        · split <;> exact id

theorem actSetCommit_keepsNotices (src tally generation : Nat) :
    s.KeepsNotices (actSetCommit src tally generation s).state := by
  unfold actSetCommit
  split
  · exact .refl s
  · split_ifs
    any_goals exact .refl s
    split
    · exact .refl s
    · exact s.keepsNotices_commit _

theorem actCollect_keepsNotices : s.KeepsNotices (actCollect s).state := by
  unfold actCollect
  split
  · exact fun law => NoticeUnit.Law.remove law _
  · exact .refl s

theorem actSupplyClear_keepsNotices : s.KeepsNotices (actSupplyClear s).state := by
  unfold actSupplyClear
  split
  · dsimp only [Acted.ok]
    split
    · exact .refl s
    · exact s.keepsNotices_changeSupply _
  · exact .refl s

end Owners

theorem ownerOfRest_keepsNotices (f : Frame) : ∀ o ∈ ownerOfRest f, o.KeepsNotices := by
  unfold ownerOfRest
  split
  · exact nofun
  · rintro _ ⟨⟩ s
    exact id
  · exact nofun

/-! ## The branch line (R110 to R121) -/

section BranchLine

variable (s : State)

theorem State.keepsNotices_addStranger (x : Stranger) : s.KeepsNotices (s.addStranger x) := by
  have listed (b : Branch) : s.KeepsNotices ((s.setBranch b).raise (.stranger x.station)) :=
    (s.setBranch b).keepsNotices_raise _
  unfold State.addStranger
  dsimp only
  split_ifs
  · exact .refl s
  · exact listed _
  · exact listed _
  · exact id

theorem State.keepsNotices_miss (n : ChannelNo) : s.KeepsNotices (s.miss n) := by
  unfold State.miss
  dsimp only
  split
  · exact State.keepsNotices_raise (s.mapChannel n _) (.lost n)
  · exact id

theorem State.keepsNotices_channelMiss (n : ChannelNo) : s.KeepsNotices (s.channelMiss n) := by
  unfold State.channelMiss
  split
  · exact s.keepsNotices_miss n
  · exact .refl s

theorem State.keepsNotices_boundAnswer (n : ChannelNo) (a : Answer) (command : DriveCommand) :
    s.KeepsNotices (s.boundAnswer n a command) := by
  have set (channels : Table Channel 16) : s.KeepsNotices (s.setChannels channels) := id
  exact (set _).trans (State.keepsNotices_raiseOption _ _)

theorem State.keepsNotices_channelAnswer (n : ChannelNo) (a : Answer) (command : DriveCommand) :
    s.KeepsNotices (s.channelAnswer n a command) := by
  unfold State.channelAnswer
  dsimp only
  split
  · split_ifs
    · exact s.keepsNotices_boundAnswer n a command
    · exact s.keepsNotices_miss n
    · exact (s.keepsNotices_addStranger _).trans (State.keepsNotices_miss _ n)
  · split
    · exact State.keepsNotices_raise ((s.keepStrangers _).mapChannel n _) (.bound n)
    · exact s.keepsNotices_addStranger _

theorem State.keepsNotices_goodAnswer (x : Exchange) (a : Answer) : s.KeepsNotices (s.goodAnswer x a) := by
  unfold State.goodAnswer
  split
  · exact s.keepsNotices_channelAnswer _ a _
  · exact .refl s
  · exact .refl s
  · unfold State.discoveryAnswer
    split
    · exact .refl s
    · exact s.keepsNotices_addStranger _

theorem State.keepsNotices_garbledAnswer (x : Exchange) : s.KeepsNotices (s.garbledAnswer x) := by
  have logged := s.keepsNotices_logError .branchCrc .branch (.station x.poll.station)
  unfold State.garbledAnswer
  dsimp only
  split
  · exact logged.trans (State.keepsNotices_channelMiss _ _)
  · exact logged

theorem State.keepsNotices_noAnswer (x : Exchange) : s.KeepsNotices (s.noAnswer x) := by
  unfold State.noAnswer
  split
  · exact s.keepsNotices_channelMiss _
  · exact .refl s
  · exact .refl s
  · exact id

theorem State.keepsNotices_closeWindow : s.KeepsNotices s.closeWindow := by
  unfold State.closeWindow
  split
  · exact .refl s
  · exact State.keepsNotices_noAnswer s.endExchange _

theorem State.keepsNotices_endTransmission (p : TrunkPort) : s.KeepsNotices (s.endTransmission p) := by
  unfold State.endTransmission
  split
  · exact .refl s
  · dsimp only
    split
    · exact State.keepsNotices_nodeReset (s.setPort p _)
    · exact id

end BranchLine

/-! ## Commands -/

/-- Whatever next state the command answers, the law goes over to it. -/
def State.OutcomeKeepsNotices (s : State) (o : Host.Outcome State Fault Refusal) : Prop :=
  ∀ t, o = .next t → s.KeepsNotices t

theorem State.KeepsNotices.next {s t : State} (h : s.KeepsNotices t) : s.OutcomeKeepsNotices (.next t) :=
  fun _ same => Host.Outcome.next.inj same ▸ h

/-- An event that has not come about changes nothing. -/
theorem State.KeepsNotices.whenDue {s t : State} (h : s.KeepsNotices t) (c : Prop) [Decidable c] :
    s.OutcomeKeepsNotices (if c then .next t else .next s) := by
  split <;> [exact h.next; exact (State.KeepsNotices.refl s).next]

theorem execFrame_keepsNotices (c : Instr) (s : State) : s.OutcomeKeepsNotices (execFrame c s) := by
  have received {demand : Bool} {act : State → Acted} (h : ∀ t : State, t.KeepsNotices (act t).state)
      (p : TrunkPort) (f : Frame) : s.OutcomeKeepsNotices (.next (s.receive p f (some ⟨demand, act⟩))) :=
    (s.keepsNotices_receive p f (some ⟨demand, act⟩) fun _ same => Option.some.inj same ▸ h).next
  have answered {demand : Bool} {act : State → Acted} (store : ∀ t, (act t).state.store = t.store)
      (notice : ∀ t, (act t).state.notice = t.notice) (p : TrunkPort) (f : Frame) :
      s.OutcomeKeepsNotices (.next (s.receive p f (some ⟨demand, act⟩))) :=
    received (fun t => State.keepsNotices_of_same (store t) (notice t)) p f
  cases c
  case unknownKind => exact received (fun t => .refl t) _ _
  case zoneAlarm => exact answered (actZoneAlarm_store _ _) (actZoneAlarm_notice · _ _) _ _
  case zoneReset => exact answered (actZoneReset_store _) (actZoneReset_notice · _) _ _
  case weather => exact answered (actWeather_store _ _ _ _) (actWeather_notice · _ _ _ _) _ _
  case groupSet => exact answered (actGroupSet_store _ _ _) (actGroupSet_notice · _ _ _) _ _
  case groupRelease => exact answered (actGroupRelease_store _) (actGroupRelease_notice · _) _ _
  case setWrite => exact received (actSetWrite_keepsNotices · _ _ _ _) _ _
  case setCommit => exact received (actSetCommit_keepsNotices · _ _ _) _ _
  case setDiscard => exact received (fun _ => id) _ _
  case read => exact received (fun t => (actRead_state _ _ _ t).symm ▸ State.KeepsNotices.refl t) _ _
  case query => exact received (fun t => (actQuery_state _ _ t).symm ▸ State.KeepsNotices.refl t) _ _
  case collect => exact received actCollect_keepsNotices _ _
  case lampSet => exact answered (actLampSet_store _ _) (actLampSet_notice · _ _) _ _
  case channelClear => exact answered (actChannelClear_store _) (actChannelClear_notice · _) _ _
  case errorClear => exact received (fun _ => id) _ _
  case supplyClear => exact received actSupplyClear_keepsNotices _ _
  case nodeReset => exact received (fun t => .refl t) _ _
  all_goals exact (State.KeepsNotices.refl s).next

theorem execFrameReception_keepsNotices (p : TrunkPort) (period : Nat) (chars : List Byte) (s : State) :
    s.OutcomeKeepsNotices (execFrameReception p period chars s) := by
  unfold execFrameReception
  split
  · exact (State.KeepsNotices.refl s).next
  · split
    · exact (s.keepsNotices_logError _ _ _).next
    · exact (s.keepsNotices_logError _ _ _).next
    · split
      · exact execFrame_keepsNotices _ s
      · exact (s.keepsNotices_receive p _ _ (ownerOfRest_keepsNotices _)).next

theorem execLinkDown_keepsNotices (p : TrunkPort) (s : State) : s.OutcomeKeepsNotices (execLinkDown p s) := by
  unfold execLinkDown
  dsimp only
  split
  · exact State.KeepsNotices.next (State.keepsNotices_nodeReset (s.setPort p _))
  · exact State.KeepsNotices.next id

theorem execNodeResetTakesEffect_keepsNotices (s : State) :
    s.OutcomeKeepsNotices (execNodeResetTakesEffect s) := by
  unfold execNodeResetTakesEffect
  split
  · exact (s.keepsNotices_endTransmission .up).next
  · exact (s.keepsNotices_endTransmission .down).whenDue _

theorem execSupplySample_keepsNotices (reading : Nat) (s : State) :
    s.OutcomeKeepsNotices (execSupplySample reading s) := by
  unfold execSupplySample
  split
  · dsimp only
    split
    · exact State.KeepsNotices.next id
    · exact (s.keepsNotices_changeSupply _).next
  · exact (State.KeepsNotices.refl s).next

theorem execSlotStart_keepsNotices (s : State) : s.OutcomeKeepsNotices (execSlotStart s) := by
  have started (index : Fin 24) (start : Nat) : s.KeepsNotices (s.closeWindow.startSlot index start) :=
    s.keepsNotices_closeWindow
  unfold execSlotStart
  split
  · exact (State.KeepsNotices.refl s).next
  · exact (started _ _).whenDue _
  · exact (started _ _).whenDue _

theorem execBranchReception_keepsNotices (chars : List Byte) (s : State) :
    s.OutcomeKeepsNotices (execBranchReception chars s) := by
  unfold execBranchReception
  split
  · exact (State.KeepsNotices.refl s).next
  · split
    · split
      · exact State.KeepsNotices.next (State.keepsNotices_goodAnswer s.endExchange _ _)
      · exact State.KeepsNotices.next (State.keepsNotices_garbledAnswer s.endExchange _)
    · exact (State.KeepsNotices.refl s).next

theorem execAnswerWindowClose_keepsNotices (s : State) :
    s.OutcomeKeepsNotices (execAnswerWindowClose s) := by
  unfold execAnswerWindowClose
  split
  · exact (State.KeepsNotices.refl s).next
  · exact s.keepsNotices_closeWindow.whenDue _

/-- The commands of frames, line errors, the supply, the contact and the branch line change the notices by the
unit's own operations, the resets empty the set, and no other command touches what the law reads. -/
theorem exec_keepsNotices (c : Instr) (s : State) : s.OutcomeKeepsNotices (exec c s) := by
  have frame := execFrame_keepsNotices c s
  have apart {t : State} (store : t.store = s.store) (notice : t.notice = s.notice) :
      s.OutcomeKeepsNotices (.next t) := (State.keepsNotices_of_same store notice).next
  have expires {t : State} (q : Prop) [Decidable q] (store : t.store = s.store) (notice : t.notice = s.notice) :
      s.OutcomeKeepsNotices (if q then .next t else .next s) :=
    (State.keepsNotices_of_same store notice).whenDue q
  cases c
  case powerOn => exact State.KeepsNotices.next fun _ => NoticeUnit.law_powerOn _
  case linkDown p => exact execLinkDown_keepsNotices p s
  case linkUp => exact apart rfl rfl
  case frameReception p period chars => exact execFrameReception_keepsNotices p period chars s
  case nodeResetTakesEffect => exact execNodeResetTakesEffect_keepsNotices s
  case transmissionEnd p => exact (s.keepsNotices_endTransmission p).next
  case transmissionStart => exact expires _ rfl rfl
  case contactInputChange => exact apart rfl rfl
  case pendingChangeAccepted => exact s.keepsNotices_acceptContact.whenDue _
  case panelTimeout => exact expires _ rfl rfl
  case rainHoldExpiry => exact expires _ rfl rfl
  case stormHoldExpiry => exact expires _ rfl rfl
  case stationTimeout => exact expires _ rfl rfl
  case dwellExpiry => exact expires _ rfl rfl
  case retryExpiry => exact expires _ rfl rfl
  case supplySample reading => exact execSupplySample_keepsNotices reading s
  case slotStart => exact execSlotStart_keepsNotices s
  case branchReception chars => exact execBranchReception_keepsNotices chars s
  case answerWindowClose => exact execAnswerWindowClose_keepsNotices s
  all_goals exact frame

/-- Settles O52, by the step lemma: every command keeps the law. -/
theorem stepKeepsNoticeLaw : Obligations.StepKeepsNoticeLaw := by
  intro s t law ran
  unfold step at ran
  split at ran
  · cases ran
    exact law
  next c rest _ => exact exec_keepsNotices c (s.setPending rest) t ran law

end Sys2Proof.Machine

/-! SUPPORT. COLLECT, QUERY and ERROR_CLEAR (R162, R163, R165, R168): the order in which notices are offered, the
bodies of section 9.6 field by field, and the statements about the three requests. -/

namespace Sys2Proof.Machine

/-! ## ERROR_CLEAR (R168) -/

/-- Settles O36: the owner clears the log of the unit and the mark of the branch that supervision leaves. -/
theorem errorClearClearsLog : Obligations.ErrorClearClearsLog := by
  intro rx a s ⟨address, notLooped⟩ here
  have acts : actErrorClear (s.supervise rx.src)
      = Acted.ok [] (((s.supervise rx.src).setNotice ⟨s.notice.notices, 0, none, s.notice.attention⟩).setBranch
          { s.branch with overflow := false }) := by
    rw [← s.supervise_notice rx.src, ← s.supervise_branch rx.src]
    rfl
  exact congrArg Host.Outcome.next (s.receive_of_answers rx.port _ _ a address notLooped here acts)

/-! ## The order of the offers (R161, R162) -/

theorem groupOrder_nodup (n : Nat) : (groupOrder n).Nodup := by
  unfold groupOrder
  split <;> decide

theorem mem_groupOrder (n : Nat) (g : NoticeGroup) : g ∈ groupOrder n := by
  unfold groupOrder
  split <;> cases g <;> decide

/-- In a list without repetition an earlier element has the smaller index. -/
theorem pairwise_idxOf_lt {l : List NoticeGroup} (nodup : l.Nodup) :
    l.Pairwise fun g h => l.idxOf g < l.idxOf h := by
  refine List.pairwise_iff_getElem.mpr fun i j hi hj before => ?_
  rwa [nodup.idxOf_getElem, nodup.idxOf_getElem]

/-- The order of R162: by the group's place under notice_order, within a group by R161's table. -/
def Notice.OfferedBefore (order : List NoticeGroup) (x y : Notice) : Prop :=
  order.idxOf x.kind.group < order.idxOf y.kind.group ∨ (x.kind.group = y.kind.group ∧ x.place ≤ y.place)

section Offers

variable {node : NodeRecord} {l : List Notice} {x : Notice}

theorem mem_offered : x ∈ offered node l ↔ x ∈ l ∧ offerable node x = true := by
  simp [offered, mem_groupOrder]

/-- Records are offered in the order of R162. -/
theorem offered_pairwise (order : InPlaceOrder l) :
    (offered node l).Pairwise (Notice.OfferedBefore (groupOrder node.noticeOrder)) := by
  have ascending : l.Pairwise fun x y => x.place < y.place := List.pairwise_map.mp order
  have inGroup {g : NoticeGroup} {x : Notice}
      (hx : x ∈ l.filter fun x => decide (x.kind.group = g) && offerable node x) : x.kind.group = g := by
    have := (List.mem_filter.mp hx).2
    simp only [Bool.and_eq_true, decide_eq_true_eq] at this
    exact this.1
  refine List.pairwise_flatMap.mpr ⟨fun g _ => ?_, ?_⟩
  · refine (ascending.sublist List.filter_sublist).imp_of_mem fun {x y} hx hy before => ?_
    exact .inr ⟨(inGroup hx).trans (inGroup hy).symm, before.le⟩
  · refine (pairwise_idxOf_lt (groupOrder_nodup _)).imp fun {g h} before x hx y hy => .inl ?_
    rwa [inGroup hx, inGroup hy]

theorem firstOfferable_eq_none_iff :
    firstOfferable node l = none ↔ ∀ x ∈ l, offerable node x = false := by
  rw [firstOfferable, List.head?_eq_none_iff, List.eq_nil_iff_forall_not_mem]
  refine forall_congr' fun x => ?_
  rw [mem_offered, not_and, Bool.not_eq_true]

theorem mem_of_firstOfferable (first : firstOfferable node l = some x) : x ∈ l ∧ offerable node x = true :=
  mem_offered.mp (List.mem_of_head? first)

/-- No offerable record stands before the first. -/
theorem firstOfferable_before (order : InPlaceOrder l) (first : firstOfferable node l = some x) {y : Notice}
    (hy : y ∈ l) (offers : offerable node y = true) : x.OfferedBefore (groupOrder node.noticeOrder) y := by
  obtain ⟨rest, split⟩ := List.head?_eq_some_iff.mp first
  have sorted := offered_pairwise (node := node) order
  have listed := mem_offered.mpr ⟨hy, offers⟩
  rw [split] at sorted listed
  obtain rfl | later := List.mem_cons.mp listed
  · exact .inr ⟨rfl, le_rfl⟩
  · exact (List.pairwise_cons.mp sorted).1 y later

end Offers

/-! ## Codes (section 9.6) -/

theorem Mode.code_eq_idxOf (m : Mode) : m.code = [Mode.override, .cap, .floor].idxOf m := by cases m <;> rfl

theorem EngineState.code_eq_idxOf (x : EngineState) :
    x.code = [EngineState.unbound, .idle, .moving, .dwell, .retryWait, .latched, .held, .lost].idxOf x := by
  cases x <;> rfl

theorem Layer.index_eq_idxOf (l : Layer) : l.index = [Layer.s, .f, .w, .m, .c, .b].idxOf l := by
  cases l <;> rfl

theorem WindClass.code_eq_idxOf (x : WindClass) :
    x.code = [WindClass.windward, .cross, .leeward, .neutral].idxOf x := by cases x <;> rfl

theorem Detector.code_eq_idxOf (d : Detector) :
    d.code = [Detector.overcurrent, .noProgress, .noLoad, .driveFlag].idxOf d := by cases d <;> rfl

theorem Lamp.code_eq_idxOf (l : Lamp) : l.code = [Lamp.off, .on, .blink].idxOf l := by cases l <;> rfl

theorem ErrorPort.code_eq_idxOf (p : ErrorPort) : p.code = [ErrorPort.up, .down, .branch].idxOf p := by
  cases p <;> rfl

theorem ErrorKind.bit_eq_idxOf (k : ErrorKind) :
    k.bit = [ErrorKind.crcBad, .malformed, .loop, .hopExpired, .queueFull, .fieldRange, .unknownKind,
      .branchCrc].idxOf k := by
  cases k <;> rfl

/-! ## COLLECT (R163) -/

theorem actCollect_of_none {s : State} (none : firstOfferable s.node s.notice.notices = .none) :
    actCollect s = Acted.ok [0xFF, 0xFF, 0, 0] s := by
  simp only [actCollect, none]
  rfl

theorem actCollect_of_first {s : State} {x : Notice} (first : firstOfferable s.node s.notice.notices = some x) :
    actCollect s = Acted.ok (collectBody (some x)) (s.setNotice (s.notice.remove s.node x)) := by
  simp only [actCollect, first]

theorem NoticeUnit.mem_remove (node : NodeRecord) (u : NoticeUnit) (x y : Notice) :
    y ∈ (u.remove node x).notices ↔ y ∈ u.notices ∧ y ≠ x := by
  simp [NoticeUnit.remove, NoticeUnit.refresh]

/-- Settles O34: the owner's two cases on what supervision leaves, whose notices and node record are those before. -/
theorem collectTakesFirstOfferable : Obligations.CollectTakesFirstOfferable := by
  intro rx a s ⟨address, notLooped⟩ here law s1 answers orders detail
  have notice : s1.notice = s.notice := s.supervise_notice rx.src
  have node : s1.node = s.node := congrArg (·.active.node) (s.supervise_store rx.src)
  have answered {body : List Byte} {u : NoticeUnit} (acts : actCollect s1 = Acted.ok body (s1.setNotice u)) :
      answers body u :=
    congrArg Host.Outcome.next (s.receive_of_answers rx.port _ _ a address notLooped here acts)
  refine ⟨fun masked => ?none, fun ⟨y, hy, offers⟩ => ?first⟩
  case none =>
    refine answered ?_
    rw [← notice, State.setNotice_self]
    exact actCollect_of_none (by rw [notice, node]; exact firstOfferable_eq_none_iff.mpr masked)
  case first =>
    obtain ⟨x, first⟩ : ∃ x, firstOfferable s.node s.notice.notices = some x := by
      refine Option.ne_none_iff_exists'.mp fun none => ?_
      exact Bool.false_ne_true ((firstOfferable_eq_none_iff.mp none y hy).symm.trans offers)
    obtain ⟨pending, offerable⟩ := mem_of_firstOfferable first
    have acts := actCollect_of_first (s := s1) (x := x) (by rwa [notice, node])
    have detail_eq : x.detail = detail x := by
      cases x
      case supply u => exact u.code_eq_idxOf
      case fault d => exact d.code_eq_idxOf
      all_goals rfl
    have body_eq : collectBody (some x)
        = [byte x.kind.bit, match x.channel with | some n => byte n.1 | none => 0xFF] ++ be16 (detail x) := by
      rw [← detail_eq, collectBody]
      cases x.channel <;> rfl
    rw [body_eq, notice, node] at acts
    refine ⟨x, s.notice.remove s.node x, pending, offerable, answered acts,
      s.notice.mem_remove s.node x, rfl, rfl, rfl, fun order named y hy offers => ?_⟩
    have same : order = groupOrder s.node.noticeOrder := by
      have listed : orders = (List.range 6).map groupOrder := rfl
      rw [listed, List.getElem?_map, Option.map_eq_some_iff] at named
      obtain ⟨n, inRange, rfl⟩ := named
      rw [List.getElem?_eq_some_iff] at inRange
      obtain ⟨_, rfl⟩ := inRange
      rw [List.getElem_range]
    exact same ▸ firstOfferable_before law.2 first hy offers

/-! ## The bodies of a QUERY (R165, section 9.6) -/

/-- Bodies that agree in their last field and in what is before it. -/
theorem append_congr {a b x y : List Byte} (before : a = b) (last : x = y) : a ++ x = b ++ y :=
  congrArg₂ (· ++ ·) before last

/-- The two bytes of what is absent (section 9.6). -/
theorem be16_absent : be16 0xFFFF = [0xFF, 0xFF] := by decide

theorem derivedLamp_some (x : EngineState) (l : Layer) :
    derivedLamp x (some l)
      = if x = .latched then .blink else if l = .s ∨ l = .f then .on else .off := by
  simp only [derivedLamp, Option.some_inj]

theorem derivedLamp_none (x : EngineState) : derivedLamp x none = if x = .latched then .blink else .off := by
  simp [derivedLamp]

theorem cellBytes_length (c : Option Cell) : (cellBytes c).length = 5 := by cases c <;> rfl

theorem firstErrorBytes_length (x : Option FirstError) : (firstErrorBytes x).length = 7 := by
  obtain _ | ⟨_, _, _ | _ | _⟩ := x <;> rfl

theorem State.channelBody_length (s : State) (n : ChannelNo) : (s.channelBody n).length = 41 := by
  simp [State.channelBody, be16, cellBytes_length]

theorem State.zoneBody_length (s : State) (z : ZoneNo) : (s.zoneBody z).length = 5 := rfl

theorem State.nodeBody_length (s : State) : s.nodeBody.length = 37 := by
  simp [State.nodeBody, be16, be32, firstErrorBytes_length]

/-! ## QUERY (R165) -/

theorem actQuery_channel (s : State) (n : ChannelNo) : actQuery 1 n.1 s = Acted.ok (s.channelBody n) s := by
  simp only [actQuery, index16_val]

theorem actQuery_zone (s : State) (z : ZoneNo) : actQuery 2 z.1 s = Acted.ok (s.zoneBody z) s := by
  simp only [actQuery, index16_val]

theorem actQuery_of_large_index (s : State) {subject index : Nat} (indexed : subject = 1 ∨ subject = 2)
    (large : 16 ≤ index) : actQuery subject index s = Acted.refuse .badIndex [] s := by
  obtain rfl | rfl := indexed <;> simp only [actQuery, index16_of_large large]

theorem actQuery_of_unlisted (s : State) {subject index : Nat} (h : 3 ≤ subject) :
    actQuery subject index s = Acted.refuse .badValue [] s := by
  unfold actQuery
  split <;> [omega; omega; omega; rfl]

/-- Settles O35: the owner's tests on what supervision leaves, and its bodies field by field. -/
theorem queryReportsState : Obligations.QueryReportsState := by
  intro rx subject index a s ⟨address, notLooped⟩ here s1 answers bit cell channel zone w condition left contact
    node
  have answered {status : Status} {body : List Byte}
      (acts : actQuery subject index s1 = ⟨s1, none, status, body, false⟩) : answers status body :=
    congrArg Host.Outcome.next (s.receive_of_answers rx.port _ _ a address notLooped here acts)
  have cell_eq (c : Option Cell) : cell c = cellBytes c := by
    obtain _ | ⟨v, origin, _ | mode⟩ := c
    · rfl
    · cases origin <;> rfl
    · rw [cellBytes, Option.map_some, Option.getD_some, mode.code_eq_idxOf]
      cases origin <;> rfl
  have channel_eq (n : ChannelNo) : channel n = s1.channelBody n := by
    have record : s1.record n = s.record n := State.record_of_store s s1 n (s.supervise_store rx.src)
    unfold State.channelBody
    simp only [channel, cell_eq, record, List.append_cancel_right_eq]
    refine append_congr (append_congr ?result ?position) (congrArg₂ (fun fault lamp => [_, fault, lamp]) ?fault ?lamp)
    case result =>
      rw [EngineState.code_eq_idxOf]
      cases (s1.channels.get n).result with
      | none => rw [Option.map_none, Option.getD_none, be16_absent]; rfl
      | some r =>
        rw [Option.map_some, Option.map_some, Option.map_some, r.layer.index_eq_idxOf, r.wind.code_eq_idxOf]
        rfl
    case position =>
      cases (s1.channels.get n).engine.position with
      | none => exact be16_absent.symm
      | some mm => rfl
    case fault =>
      cases (s1.channels.get n).engine.lastFault with
      | none => rfl
      | some d => rw [Option.map_some, d.code_eq_idxOf]; rfl
    case lamp =>
      rw [Engine.wantedLamp, Lamp.code_eq_idxOf]
      cases (s1.channels.get n).result with
      | none => rw [Option.map_none, derivedLamp_none]
      | some r => rw [Option.map_some, derivedLamp_some]
  have zone_eq (z : ZoneNo) : zone z = s1.zoneBody z := by
    unfold State.zoneBody
    simp only [zone]
    cases (s1.zone.zones.get z).episode <;> rfl
  have left_eq (duration : Nat) (h : HoldTimer) : left duration h = h.left s.now duration := by
    cases h <;> rfl
  have condition_eq (h : HoldTimer) : condition h = h.code := by cases h <;> rfl
  have node_eq : node = s1.nodeBody := by
    have contact_eq : contact = decide (s1.effective = .active) := by
      simp only [State.effective, State.node, s1, State.supervise_store, State.supervise_contact, contact]
      cases s.store.active.node.contactSource <;> rfl
    unfold State.nodeBody State.stationLeft
    simp only [node, w, left_eq, condition_eq, contact_eq, s1, State.supervise_store, State.supervise_now,
      State.supervise_trunk, State.supervise_supply, State.supervise_branch, State.supervise_notice,
      State.supervise_weather]
    refine append_congr ?_ ?firstError
    refine append_congr ?_ rfl
    refine append_congr ?_ (congrArg be32 ?station)
    refine append_congr (append_congr ?_ rfl) rfl
    refine append_congr ?_ ?holds
    refine append_congr ?_ ?direction
    refine append_congr (append_congr ?_ rfl) rfl
    refine append_congr (append_congr ?staged ?supply) ?last
    case firstError =>
      obtain _ | ⟨k, p, _ | h | st⟩ := s.notice.firstError
      · rfl
      · rw [firstErrorBytes, k.bit_eq_idxOf, p.code_eq_idxOf, Nat.add_assoc]
      · rw [firstErrorBytes, k.bit_eq_idxOf, p.code_eq_idxOf, Nat.add_assoc (128 + 64)]
        rfl
      · rw [firstErrorBytes, k.bit_eq_idxOf, p.code_eq_idxOf, Nat.add_assoc]
    case station => cases s.weather.stationTimer <;> rfl
    case holds => cases s.weather.stationTimer <;> rfl
    case direction => cases s.weather.direction <;> rfl
    case staged => cases s.store.staged <;> rfl
    case supply => rw [SupplyState.code_eq_idxOf]; rfl
    case last =>
      cases s.supply.last with
      | none => exact be16_absent.symm
      | some v => rfl
  refine ⟨?_, ?_, ?_, ?_, fun indexed large => answered (actQuery_of_large_index s1 indexed large),
    fun high => answered (actQuery_of_unlisted s1 high)⟩
  · rintro rfl rfl
    exact node_eq ▸ ⟨answered rfl, s1.nodeBody_length⟩
  · rintro rfl other
    exact answered (if_neg other)
  · rintro rfl inside
    exact channel_eq ⟨index, inside⟩ ▸
      ⟨answered (actQuery_channel s1 ⟨index, inside⟩), s1.channelBody_length _⟩
  · rintro rfl inside
    exact zone_eq ⟨index, inside⟩ ▸ ⟨answered (actQuery_zone s1 ⟨index, inside⟩), s1.zoneBody_length _⟩

end Sys2Proof.Machine

/-! SUPPORT. The step, and what no command moves: the time base and the queue of waiting commands. Each operation
of the model is an equation about the pair of the two; every command answers a next state with the pair as it was. -/

namespace Sys2Proof.Machine

/-! ## The step -/

theorem step_of_pending_nil {s : State} (idle : s.pending = []) : step s = .next s.tick := by
  unfold step
  rw [idle]

theorem step_of_pending_cons {s : State} {c : Instr} {rest : List Instr} (waiting : s.pending = c :: rest) :
    step s = exec c (s.setPending rest) := by
  unfold step
  rw [waiting]

/-- Settles O1, by whether a command waits. -/
theorem stepRunsFrontCommand : Obligations.StepRunsFrontCommand :=
  ⟨fun _ _ _ => step_of_pending_cons, fun _ => step_of_pending_nil⟩

/-! ## The time base and the queue -/

/-- What step alone moves: the time base and the queue of waiting commands. -/
def State.timeAndQueue (s : State) : Nat × List Instr := (s.now, s.pending)

theorem State.timeAndQueue_eq {s t : State} (now : t.now = s.now) (pending : t.pending = s.pending) :
    t.timeAndQueue = s.timeAndQueue := Prod.ext now pending

section Operations

variable (s : State)

theorem State.raiseOption_timeAndQueue (x : Option Notice) :
    (s.raiseOption x).timeAndQueue = s.timeAndQueue :=
  State.timeAndQueue_eq (s.raiseOption_now x) (s.raiseOption_pending x)

theorem State.logError_timeAndQueue (k : ErrorKind) (port : ErrorPort) (c : Captured) :
    (s.logError k port c).timeAndQueue = s.timeAndQueue :=
  State.timeAndQueue_eq (s.logError_now k port c) (s.logError_pending k port c)

theorem State.changeSupply_timeAndQueue (u : Supply) : (s.changeSupply u).timeAndQueue = s.timeAndQueue :=
  State.timeAndQueue_eq (s.changeSupply_now u) (s.changeSupply_pending u)

theorem State.commit_timeAndQueue (new : ConfigSet) : (s.commit new).timeAndQueue = s.timeAndQueue := by
  unfold State.commit State.commitSupply
  dsimp only
  split <;> [exact State.changeSupply_timeAndQueue _ _; rfl]

theorem State.acceptContact_timeAndQueue : s.acceptContact.timeAndQueue = s.timeAndQueue := by
  unfold State.acceptContact
  dsimp only
  split <;> rfl

theorem State.endTransmission_timeAndQueue (p : TrunkPort) :
    (s.endTransmission p).timeAndQueue = s.timeAndQueue := by
  unfold State.endTransmission
  split
  · rfl
  · dsimp only
    split <;> rfl

/-! ## Frames (R151 to R159) -/

variable (p : TrunkPort) (f : Frame)

theorem State.hear_timeAndQueue (src : Nat) : (s.hear src).timeAndQueue = s.timeAndQueue :=
  State.timeAndQueue_eq (s.hear_now src) (s.hear_pending src)

theorem State.supervise_timeAndQueue (src : Nat) : (s.supervise src).timeAndQueue = s.timeAndQueue :=
  State.timeAndQueue_eq (s.supervise_now src) (s.supervise_pending src)

theorem State.logFrame_timeAndQueue (k : ErrorKind) : (s.logFrame k p f).timeAndQueue = s.timeAndQueue :=
  s.logError_timeAndQueue k _ _

theorem State.logOption_timeAndQueue (k : Option ErrorKind) :
    (s.logOption k p f).timeAndQueue = s.timeAndQueue :=
  State.timeAndQueue_eq (s.logOption_now k p f) (s.logOption_pending k p f)

theorem State.forward_timeAndQueue : (s.forward p f).1.timeAndQueue = s.timeAndQueue :=
  State.timeAndQueue_eq (s.forward_now p f) (s.forward_pending p f)

theorem State.forwardOnly_timeAndQueue : (s.forwardOnly p f).timeAndQueue = s.timeAndQueue :=
  State.timeAndQueue_eq (s.forwardOnly_now p f) (s.forwardOnly_pending p f)

/-- The node reset that a discarded reply brings about keeps the time base (R159). -/
theorem State.reply_timeAndQueue (a : Nat) (status : Status) (body : List Byte) (reset : Bool) :
    (s.reply p f a status body reset).timeAndQueue = s.timeAndQueue := by
  have logged := s.logFrame_timeAndQueue p f .queueFull
  unfold State.reply
  dsimp only
  split
  · split <;> rfl
  · split <;> exact logged
  · split <;> rfl

theorem State.actAndForward_timeAndQueue (act : State → Acted) :
    (s.actAndForward p f act).timeAndQueue = (act s).state.timeAndQueue := by
  have forwarded := (act s).state.forward_timeAndQueue p f
  have logs (t : State) (k : ErrorKind) := t.logFrame_timeAndQueue p f k
  unfold State.actAndForward
  dsimp only
  split
  · split <;> exact ((logs _ _).trans (logs _ _)).trans forwarded
  · exact (logs _ _).trans forwarded
  · exact (State.logOption_timeAndQueue _ p f _).trans forwarded

end Operations

/-- Whatever state it finds, the owner leaves the time base and the queue. -/
def Owner.KeepsTimeAndQueue (o : Owner) : Prop := ∀ s : State, (o.act s).state.timeAndQueue = s.timeAndQueue

theorem Owner.KeepsTimeAndQueue.run {o : Owner} (h : o.KeepsTimeAndQueue) (src : Nat) (s : State) :
    (o.run src s).state.timeAndQueue = s.timeAndQueue := by
  unfold Owner.run
  split
  · exact (h _).trans (s.hear_timeAndQueue src)
  · exact (h _).trans (s.supervise_timeAndQueue src)

theorem State.receive_timeAndQueue (s : State) (p : TrunkPort) (f : Frame) (owner : Option Owner)
    (h : ∀ o ∈ owner, o.KeepsTimeAndQueue) : (s.receive p f owner).timeAndQueue = s.timeAndQueue := by
  obtain ⟨-, repeater⟩ | ⟨-, loop⟩ | ⟨a, -, -, arrived⟩ := s.receive_cases p f owner
  · exact repeater ▸ s.forwardOnly_timeAndQueue p f
  · exact loop ▸ s.logFrame_timeAndQueue p f .loop
  · obtain ⟨-, o, ho, acts⟩ | ⟨-, -, acts⟩ | ⟨-, -, -, o, ho, acts⟩ | ⟨-, -, acts⟩ := arrived
    · exact acts ▸ ((State.reply_timeAndQueue _ p f a _ _ _).trans
        (State.logOption_timeAndQueue _ p f _)).trans ((h o ho).run f.src s)
    · exact acts ▸ s.supervise_timeAndQueue f.src
    · exact acts ▸ (s.actAndForward_timeAndQueue p f _).trans ((h o ho).run f.src s)
    · exact acts ▸ (State.forwardOnly_timeAndQueue _ p f).trans (s.supervise_timeAndQueue f.src)

/-! ## Owners -/

section Owners

variable (s : State)

theorem actZoneAlarm_timeAndQueue (zone : Nat) (episode : Option Positions) :
    (actZoneAlarm zone episode s).state.timeAndQueue = s.timeAndQueue := by
  unfold actZoneAlarm
  split
  · rfl
  · split <;> rfl

theorem actZoneReset_timeAndQueue (zone : Nat) : (actZoneReset zone s).state.timeAndQueue = s.timeAndQueue := by
  unfold actZoneReset
  split
  · rfl
  · split <;> rfl

theorem actWeather_timeAndQueue (src speed direction rain : Nat) :
    (actWeather src speed direction rain s).state.timeAndQueue = s.timeAndQueue := by
  unfold actWeather
  split <;> rfl

theorem actGroupSet_timeAndQueue (group position mode : Nat) :
    (actGroupSet group position mode s).state.timeAndQueue = s.timeAndQueue := by
  unfold actGroupSet
  split <;> rfl

theorem actGroupRelease_timeAndQueue (group : Nat) :
    (actGroupRelease group s).state.timeAndQueue = s.timeAndQueue := by
  unfold actGroupRelease
  split <;> rfl

theorem actSetWrite_timeAndQueue (src table index : Nat) (record : List Byte) :
    (actSetWrite src table index record s).state.timeAndQueue = s.timeAndQueue := by
  unfold actSetWrite
  split
  · rfl
  · split
    · rfl
    · split
      · rfl
      · split
        · rfl
        · split <;> rfl

theorem actSetCommit_timeAndQueue (src tally generation : Nat) :
    (actSetCommit src tally generation s).state.timeAndQueue = s.timeAndQueue := by
  unfold actSetCommit
  split
  · rfl
  · split_ifs
    any_goals rfl
    split <;> [rfl; exact s.commit_timeAndQueue _]

theorem actCollect_timeAndQueue : (actCollect s).state.timeAndQueue = s.timeAndQueue := by
  unfold actCollect
  split <;> rfl

theorem actLampSet_timeAndQueue (channel value : Nat) :
    (actLampSet channel value s).state.timeAndQueue = s.timeAndQueue := by
  unfold actLampSet
  split <;> rfl

theorem actChannelClear_timeAndQueue (channel : Nat) :
    (actChannelClear channel s).state.timeAndQueue = s.timeAndQueue := by
  unfold actChannelClear
  split
  · rfl
  · split <;> rfl

theorem actSupplyClear_timeAndQueue : (actSupplyClear s).state.timeAndQueue = s.timeAndQueue := by
  unfold actSupplyClear
  split
  · dsimp only [Acted.ok]
    split <;> [rfl; exact s.changeSupply_timeAndQueue _]
  · rfl

end Owners

theorem ownerOfRest_keepsTimeAndQueue (f : Frame) : ∀ o ∈ ownerOfRest f, o.KeepsTimeAndQueue := by
  unfold ownerOfRest
  split
  · exact nofun
  · rintro _ ⟨⟩ s
    rfl
  · exact nofun

/-! ## The branch line (R110 to R121) -/

section BranchLine

variable (s : State)

theorem State.addStranger_timeAndQueue (x : Stranger) : (s.addStranger x).timeAndQueue = s.timeAndQueue := by
  unfold State.addStranger
  dsimp only
  split_ifs <;> rfl

theorem State.miss_timeAndQueue (n : ChannelNo) : (s.miss n).timeAndQueue = s.timeAndQueue := by
  unfold State.miss
  dsimp only
  split <;> rfl

theorem State.channelMiss_timeAndQueue (n : ChannelNo) : (s.channelMiss n).timeAndQueue = s.timeAndQueue := by
  unfold State.channelMiss
  split <;> [exact s.miss_timeAndQueue n; rfl]

theorem State.channelAnswer_timeAndQueue (n : ChannelNo) (a : Answer) (command : DriveCommand) :
    (s.channelAnswer n a command).timeAndQueue = s.timeAndQueue := by
  unfold State.channelAnswer
  dsimp only
  split
  · split_ifs
    · exact State.raiseOption_timeAndQueue _ _
    · exact s.miss_timeAndQueue n
    · exact (State.miss_timeAndQueue _ n).trans (s.addStranger_timeAndQueue _)
  · split <;> [rfl; exact s.addStranger_timeAndQueue _]

theorem State.goodAnswer_timeAndQueue (x : Exchange) (a : Answer) :
    (s.goodAnswer x a).timeAndQueue = s.timeAndQueue := by
  unfold State.goodAnswer
  split
  · exact s.channelAnswer_timeAndQueue _ a _
  · rfl
  · rfl
  · unfold State.discoveryAnswer
    split <;> [rfl; exact s.addStranger_timeAndQueue _]

theorem State.garbledAnswer_timeAndQueue (x : Exchange) : (s.garbledAnswer x).timeAndQueue = s.timeAndQueue := by
  have logged := s.logError_timeAndQueue .branchCrc .branch (.station x.poll.station)
  unfold State.garbledAnswer
  dsimp only
  split
  · exact (State.channelMiss_timeAndQueue _ _).trans logged
  · exact logged

theorem State.noAnswer_timeAndQueue (x : Exchange) : (s.noAnswer x).timeAndQueue = s.timeAndQueue := by
  unfold State.noAnswer
  split <;> [exact s.channelMiss_timeAndQueue _; rfl; rfl; rfl]

theorem State.closeWindow_timeAndQueue : s.closeWindow.timeAndQueue = s.timeAndQueue := by
  unfold State.closeWindow
  split <;> [rfl; exact State.noAnswer_timeAndQueue s.endExchange _]

end BranchLine

/-! ## Commands -/

/-- The outcome is a next state, whose time base and queue are those of the state given. -/
def State.Answered (s : State) (o : Host.Outcome State Fault Refusal) : Prop :=
  ∃ t, o = .next t ∧ t.now = s.now ∧ t.pending = s.pending

theorem State.answered_next {s t : State} (kept : t.timeAndQueue = s.timeAndQueue) : s.Answered (.next t) :=
  ⟨t, rfl, congrArg Prod.fst kept, congrArg Prod.snd kept⟩

theorem State.answered_same (s : State) : s.Answered (.next s) := State.answered_next rfl

/-- An event that has not come about changes nothing. -/
theorem State.answered_whenDue {s t : State} (p : Prop) [Decidable p] (kept : t.timeAndQueue = s.timeAndQueue) :
    s.Answered (if p then .next t else .next s) := by
  split <;> [exact State.answered_next kept; exact s.answered_same]

theorem execFrame_answered (c : Instr) (s : State) : s.Answered (execFrame c s) := by
  have received {demand : Bool} {act : State → Acted} (h : ∀ t, (act t).state.timeAndQueue = t.timeAndQueue)
      (p : TrunkPort) (f : Frame) : s.Answered (.next (s.receive p f (some ⟨demand, act⟩))) :=
    State.answered_next (s.receive_timeAndQueue p f (some ⟨demand, act⟩) fun _ same => Option.some.inj same ▸ h)
  cases c
  case unknownKind => exact received (fun _ => rfl) _ _
  case zoneAlarm => exact received (actZoneAlarm_timeAndQueue · _ _) _ _
  case zoneReset => exact received (actZoneReset_timeAndQueue · _) _ _
  case weather => exact received (actWeather_timeAndQueue · _ _ _ _) _ _
  case groupSet => exact received (actGroupSet_timeAndQueue · _ _ _) _ _
  case groupRelease => exact received (actGroupRelease_timeAndQueue · _) _ _
  case setWrite => exact received (actSetWrite_timeAndQueue · _ _ _ _) _ _
  case setCommit => exact received (actSetCommit_timeAndQueue · _ _ _) _ _
  case setDiscard => exact received (fun _ => rfl) _ _
  case read => exact received (fun t => congrArg State.timeAndQueue (actRead_state _ _ _ t)) _ _
  case query => exact received (fun t => congrArg State.timeAndQueue (actQuery_state _ _ t)) _ _
  case collect => exact received actCollect_timeAndQueue _ _
  case lampSet => exact received (actLampSet_timeAndQueue · _ _) _ _
  case channelClear => exact received (actChannelClear_timeAndQueue · _) _ _
  case errorClear => exact received (fun _ => rfl) _ _
  case supplyClear => exact received actSupplyClear_timeAndQueue _ _
  case nodeReset => exact received (fun _ => rfl) _ _
  all_goals exact s.answered_same

theorem execFrameReception_answered (p : TrunkPort) (period : Nat) (chars : List Byte) (s : State) :
    s.Answered (execFrameReception p period chars s) := by
  unfold execFrameReception
  split
  · exact s.answered_same
  · split
    · exact State.answered_next (s.logError_timeAndQueue _ _ _)
    · exact State.answered_next (s.logError_timeAndQueue _ _ _)
    · split
      · exact execFrame_answered _ s
      · exact State.answered_next (s.receive_timeAndQueue p _ _ (ownerOfRest_keepsTimeAndQueue _))

theorem execLinkDown_answered (p : TrunkPort) (s : State) : s.Answered (execLinkDown p s) := by
  unfold execLinkDown
  dsimp only
  split <;> exact State.answered_next rfl

theorem execNodeResetTakesEffect_answered (s : State) : s.Answered (execNodeResetTakesEffect s) := by
  unfold execNodeResetTakesEffect
  split
  · exact State.answered_next (s.endTransmission_timeAndQueue .up)
  · exact State.answered_whenDue _ (s.endTransmission_timeAndQueue .down)

theorem execSupplySample_answered (reading : Nat) (s : State) : s.Answered (execSupplySample reading s) := by
  unfold execSupplySample
  split
  · dsimp only
    split
    · exact State.answered_next rfl
    · exact State.answered_next (s.changeSupply_timeAndQueue _)
  · exact s.answered_same

theorem execSlotStart_answered (s : State) : s.Answered (execSlotStart s) := by
  have started (index : Fin 24) (start : Nat) :
      (s.closeWindow.startSlot index start).timeAndQueue = s.timeAndQueue := s.closeWindow_timeAndQueue
  unfold execSlotStart
  split
  · exact s.answered_same
  · exact State.answered_whenDue _ (started _ _)
  · exact State.answered_whenDue _ (started _ _)

theorem execBranchReception_answered (chars : List Byte) (s : State) :
    s.Answered (execBranchReception chars s) := by
  unfold execBranchReception
  split
  · exact s.answered_same
  · split
    · split
      · exact State.answered_next (s.endExchange.goodAnswer_timeAndQueue _ _)
      · exact State.answered_next (s.endExchange.garbledAnswer_timeAndQueue _)
    · exact s.answered_same

theorem execAnswerWindowClose_answered (s : State) : s.Answered (execAnswerWindowClose s) := by
  unfold execAnswerWindowClose
  split
  · exact s.answered_same
  · exact State.answered_whenDue _ s.closeWindow_timeAndQueue

/-- Settles O2, command by command: each answers a next state made by operations that leave the time base and the
queue. -/
theorem commandsAnswerNextState : Obligations.CommandsAnswerNextState := by
  intro c s
  have frame : s.Answered (execFrame c s) := execFrame_answered c s
  have expires {t : State} (p : Prop) [Decidable p] (kept : t.timeAndQueue = s.timeAndQueue) :
      s.Answered (if p then .next t else .next s) := State.answered_whenDue p kept
  cases c
  case powerOn => exact State.answered_next rfl
  case linkDown p => exact execLinkDown_answered p s
  case linkUp => exact State.answered_next rfl
  case frameReception p period chars => exact execFrameReception_answered p period chars s
  case nodeResetTakesEffect => exact execNodeResetTakesEffect_answered s
  case transmissionEnd p => exact State.answered_next (s.endTransmission_timeAndQueue p)
  case transmissionStart => exact expires _ rfl
  case contactInputChange => exact State.answered_next rfl
  case pendingChangeAccepted => exact expires _ s.acceptContact_timeAndQueue
  case panelTimeout => exact expires _ rfl
  case rainHoldExpiry => exact expires _ rfl
  case stormHoldExpiry => exact expires _ rfl
  case stationTimeout => exact expires _ rfl
  case dwellExpiry => exact expires _ rfl
  case retryExpiry => exact expires _ rfl
  case supplySample reading => exact execSupplySample_answered reading s
  case slotStart => exact execSlotStart_answered s
  case branchReception chars => exact execBranchReception_answered chars s
  case answerWindowClose => exact execAnswerWindowClose_answered s
  all_goals exact frame

end Sys2Proof.Machine
